-- ==== Sys2Proof/Word.lean ====
section
/-! DEFINITION. The words of the part's wires: bytes (R214, R216) and the 16-bit check code (R168).
Lengths, diameters, counts and ordinals are exact naturals: the manual compares and subtracts them as integers. -/
namespace Sys2Proof

/-- One byte of a frame (R216). -/
abbrev Byte := BitVec 8

/-- The 16-bit check code that closes a frame (R168). -/
abbrev CheckCode := BitVec 16

/-- The tag 0..15 of a cell frame (R175). -/
abbrev Tag := BitVec 4

end Sys2Proof
end

