-- ==== Sys2Proof/Config.lean ====
section
/-! DEFINITION. The capacities and framing values of the part (00_scope.md, "Numbers"; R216). The manual leaves no result of this
part undefined, so there is no free value here; the one rule of a value it does not give is that of a page's check code (log 7). -/
namespace Sys2Proof.Config

/-- Wheelset records (R1). -/
abbrev recordCount : Nat := 64
/-- Cars of a consist, at most (R81). -/
abbrev maxCars : Nat := 16
/-- Frames an inbox holds (R173). -/
abbrev inboxDepth : Nat := 4
/-- Interface answers that may wait in one outgoing list (R171). -/
abbrev interfaceAnswerDepth : Nat := 4
/-- Orders that may wait in one outgoing list (R178). -/
abbrev orderDepth : Nat := 4
/-- The largest payload of a cell frame (R168). -/
abbrev cellPayloadMax : Nat := 200
/-- The largest payload of a depot frame (R201). -/
abbrev depotPayloadMax : Nat := 250
/-- Contour points per answer (R144). -/
abbrev contourChunk : Nat := 8
/-- Where the gauge counts stop (R100). -/
abbrev gaugeCountMax : Nat := 255
/-- The page that holds the limits (R182). -/
abbrev limitsPage : Nat := 16

/-- The start marker of a cell frame (R216). -/
abbrev cellStartMarker : Byte := 195#8
/-- The start marker of a depot frame (R216). -/
abbrev depotStartMarker : Byte := 213#8
/-- The read marker, opening a depot read window (R216). -/
abbrev readMarker : Byte := 214#8
/-- The filler shifted out during command windows and after an answer (R216). -/
abbrev filler : Byte := 255#8

end Sys2Proof.Config
end

