-- ==== Sys2Proof/Syntax.lean ====
section
/-! DEFINITION. The commands of the part: one constructor of `Instr` per row of spec/opcode_table.json, with the types of their
operands. An operand is the raw value its frame carries (R169, R201: values are tested by the owning block, not by the port). -/
namespace Sys2Proof

/-- The STATION MODE strap (00_scope.md, signals; R148). -/
inductive StationMode where
  | tandem | single
  deriving DecidableEq, Repr

/-- The two machining stations (R116). -/
inductive StationId where
  | a | b
  deriving DecidableEq, Repr

/-- The four cell links, each with its one party and role (R166): 0 GAUGE, 1 STATION A, 2 STATION B, 3 MOVER. -/
inductive LinkId where
  | gauge | stationA | stationB | mover
  deriving DecidableEq, Repr

/-- A frame completed on a cell link, as its bytes arrived after the start marker; the payload length byte is the length of
`payload` (R168, R216). -/
structure CellFrame where
  kind : Byte
  tag : Byte
  payload : List Byte
  check : CheckCode
  deriving DecidableEq, Repr

/-- Why a receiver gives up a frame in progress before its check code (R168). -/
inductive DiscardCause where
  /-- The payload length byte is greater than 200. -/
  | lengthTooGreat
  /-- A byte came more than 10 ms after the byte before it. -/
  | byteLate
  deriving DecidableEq, Repr

/-- A contour point: lateral position and radial offset (R183). -/
structure Point where
  lateral : Nat
  radial : Nat
  deriving DecidableEq, Repr

/-- The header of a profile page as WRITE PROFILE HEAD gives it (R183, R186, R218). `applicability` is the code 1 MOTOR, 2 TRAILER,
3 BOTH (R214); the restore factor counts quarters. -/
structure ProfileHeader where
  number : Nat
  applicability : Nat
  nominalThickness : Nat
  acceptThickness : Nat
  nominalHeight : Nat
  maxHeight : Nat
  minSteepness : Nat
  restoreFactor : Nat
  pointCount : Nat
  deriving DecidableEq, Repr

/-- A profile image: header and 48 point slots (R186, R218). -/
structure ProfileImage where
  header : ProfileHeader
  slots : Vector Point 48
  deriving DecidableEq, Repr

/-- The fifteen limits in the order of R184's table. `watchMode` is the code 1 REVOLUTION, 2 TIME (R214). -/
structure LimitValues where
  condemnMotor : Nat
  condemnTrailer : Nat
  bogieTolMotor : Nat
  bogieTolTrailer : Nat
  carTolMotor : Nat
  carTolTrailer : Nat
  axleTol : Nat
  finishTol : Nat
  undercutTol : Nat
  maxPassDepth : Nat
  maxPasses : Nat
  reopenLimit : Nat
  cleanUp : Nat
  watchReload : Nat
  watchMode : Nat
  deriving DecidableEq, Repr

/-- What one nonvolatile page holds (R182, R183, R218): the erased state; a profile or limits with the two check code bytes stored after
it; or what a stopped write left, whose bytes the manual does not give and whose check code disagrees (R194, R195; log 7). -/
inductive PageContents where
  | erased
  | profile (image : ProfileImage) (check : CheckCode)
  | limits (values : LimitValues) (check : CheckCode)
  | corrupt
  deriving DecidableEq, Repr

/-- One car entry of LOAD CONSIST, as coded (R85, R217). -/
structure CarEntry where
  class1 : Nat
  class2 : Nat
  profile : Nat
  deriving DecidableEq, Repr

/-- The kinds of request a party may send on a cell link (R167, R217). -/
inductive RequestKind where
  | hello | gaugeReport | aligned | claim | grantPass | startPass | passDone | verify | release | readContour | contourNext
  deriving DecidableEq, Repr

/-- The commands: one constructor per row of spec/opcode_table.json. A request that a block takes from an inbox (R173) names the
link or station whose oldest untaken frame is taken; the frame, held in the inbox, carries the request's own operands. -/
inductive Instr where
  /-- RESET (R17, R99, R117, R150, R166, R195): assertion of RESET, or power-up. -/
  | reset
  /-- RESET_END (R117, R148, R196), with the STATION MODE strap sampled then. -/
  | resetEnd (strap : StationMode)
  /-- START_UP_CHECK_END (R196). -/
  | startUpCheckEnd
  /-- MOVE_REQUEST_RISE (R152). -/
  | moveRequestRise
  /-- MOVE_REQUEST_FALL (R155). -/
  | moveRequestFall
  /-- REV_PULSE (R132): a pulse on REV A or REV B. -/
  | revPulse (st : StationId)
  /-- TIMEBASE_TICK (R132). -/
  | timebaseTick
  /-- PASS_WATCH_EXPIRY (R133): this station's share of the pulse or tick that counts its watch from 1 to 0. -/
  | passWatchExpiry (st : StationId)
  /-- STORE_COMPLETION (R193): the completion event, with what the array then holds in the written page. -/
  | storeCompletion (readBack : PageContents)
  /-- CELL_FRAME_ARRIVAL (R170). -/
  | cellFrameArrival (l : LinkId) (f : CellFrame)
  /-- TRANSMISSION_START (R174). -/
  | transmissionStart (l : LinkId)
  /-- TRANSMISSION_END (R174). -/
  | transmissionEnd (l : LinkId)
  /-- HELLO (R176) taken from the inbox of an UP link. -/
  | hello (l : LinkId)
  /-- GAUGE_REPORT (R101) taken from the inbox of link 0. -/
  | gaugeReport
  /-- ALIGNED (R160) taken from the inbox of link 3. -/
  | aligned
  /-- CLAIM (R119). -/
  | claim (st : StationId)
  /-- GRANT_PASS (R122). -/
  | grantPass (st : StationId)
  /-- START_PASS (R124). -/
  | startPass (st : StationId)
  /-- PASS_DONE (R125, R126). -/
  | passDone (st : StationId)
  /-- VERIFY (R139, R140). -/
  | verify (st : StationId)
  /-- RELEASE (R142). -/
  | release (st : StationId)
  /-- READ_CONTOUR (R144). -/
  | readContour (st : StationId)
  /-- CONTOUR_NEXT (R145). -/
  | contourNext (st : StationId)
  /-- EMPTY_WINDOW (R200). -/
  | emptyWindow
  /-- READ_WINDOW (R203): `shifted` bytes are shifted out after the read marker. -/
  | readWindow (shifted : Nat)
  /-- MALFORMED_COMMAND_WINDOW (R201): the bytes shifted in. -/
  | malformedCommandWindow (bytes : List Byte)
  /-- STATUS (R205). -/
  | status
  /-- READ_VISIT (R98). -/
  | readVisit
  /-- LOOKUP_ORDINAL (R28). -/
  | lookupOrdinal (ordinal : Nat)
  /-- LOOKUP_SERIAL (R27). -/
  | lookupSerial (serial : Nat)
  /-- LIST_STAGE (R29), with a stage code. -/
  | listStage (code : Nat)
  /-- READ_GROUP (R53), with a group kind code and an index. -/
  | readGroup (kind index : Nat)
  /-- READ_REOPEN_LIST (R70). -/
  | readReopenList
  /-- READ_STATION (R149), with a station code. -/
  | readStation (station : Nat)
  /-- READ_ALIGNMENT (R164). -/
  | readAlignment
  /-- READ_PAGE (R198). -/
  | readPage (page : Nat)
  /-- READ_ATTENTION (R210). -/
  | readAttention
  /-- REPLAN (R74, R78). -/
  | replan (ordinal : Nat)
  /-- RULE_ACCEPT_DEVIATION (R74, R75). -/
  | ruleAcceptDeviation (ordinal : Nat)
  /-- RULE_CONDEMN (R74, R77). -/
  | ruleCondemn (ordinal : Nat)
  /-- OPEN_VISIT (R83), with a visit number and a train code of 8 bytes. -/
  | openVisit (number : Nat) (trainCode : List Byte)
  /-- LOAD_CONSIST (R85): the car count is the number of entries. -/
  | loadConsist (cars : List CarEntry)
  /-- SET_WINDOW (R90). -/
  | setWindow (w base limit : Nat)
  /-- CLOSE_VISIT (R94), with a close kind code. -/
  | closeVisit (kind : Nat)
  /-- HALT_PASS (R135), with a station code. -/
  | haltPass (station : Nat)
  /-- RESUME_PASS (R136), with a station code. -/
  | resumePass (station : Nat)
  /-- RESET_LINK (R179), with a link number. -/
  | resetLink (link : Nat)
  /-- OPEN_CATALOGUE (R187). -/
  | openCatalogue
  /-- WRITE_PROFILE_HEAD (R189). -/
  | writeProfileHead (header : ProfileHeader)
  /-- WRITE_POINTS (R190). -/
  | writePoints (start : Nat) (points : List Point)
  /-- WRITE_LIMITS (R189). -/
  | writeLimits (values : LimitValues)
  /-- ERASE_PROFILE (R189). -/
  | eraseProfile (page : Nat)
  /-- COMMIT (R191, R192). -/
  | commit
  /-- STORE_RESET (R194). -/
  | storeReset
  /-- CLOSE_CATALOGUE (R188). -/
  | closeCatalogue
  /-- ACK_EVENTS (R211), with the 16-bit mask. -/
  | ackEvents (mask : Nat)
  /-- SET_EVENT (R212). -/
  | setEvent (source enable level : Nat)
  /-- MALFORMED_FRAME_DISCARDED (R168, R172). -/
  | malformedFrameDiscarded (l : LinkId) (why : DiscardCause)
  deriving DecidableEq, Repr

end Sys2Proof
end

