-- ==== Sys2Proof/WellFormed.lean ====
section
/-! DEFINITION. Which commands the wires can carry: every operand fits the field that R214, R217 and R218 give it. A value out of its
range but within its field is well formed: the owning block answers it (R169, R201). -/
namespace Sys2Proof

/-- Fits a field of one byte (R214). -/
def fits1 (n : Nat) : Bool := n < 256
/-- Fits a field of two bytes (R214). -/
def fits2 (n : Nat) : Bool := n < 65536
/-- Fits a field of three bytes (R214). -/
def fits3 (n : Nat) : Bool := n < 16777216
/-- Fits a field of four bytes (R214). -/
def fits4 (n : Nat) : Bool := n < 4294967296

/-- A point fits two fields of two bytes (R218). -/
def Point.wf (p : Point) : Bool := fits2 p.lateral && fits2 p.radial

/-- A header fits the first 14 bytes of the profile page (R218). -/
def ProfileHeader.wf (h : ProfileHeader) : Bool :=
  fits1 h.number && fits1 h.applicability && fits2 h.nominalThickness && fits2 h.acceptThickness
    && fits2 h.nominalHeight && fits2 h.maxHeight && fits2 h.minSteepness && fits1 h.restoreFactor && fits1 h.pointCount

/-- A profile image fits its page (R218). -/
def ProfileImage.wf (i : ProfileImage) : Bool := i.header.wf && i.slots.toList.all Point.wf

/-- The fifteen limits fit the 29 bytes of the limits page (R218). -/
def LimitValues.wf (v : LimitValues) : Bool :=
  fits3 v.condemnMotor && fits3 v.condemnTrailer && fits2 v.bogieTolMotor && fits2 v.bogieTolTrailer && fits2 v.carTolMotor
    && fits2 v.carTolTrailer && fits2 v.axleTol && fits2 v.finishTol && fits2 v.undercutTol && fits2 v.maxPassDepth
    && fits1 v.maxPasses && fits1 v.reopenLimit && fits2 v.cleanUp && fits2 v.watchReload && fits1 v.watchMode

/-- The contents fit a page (R218). -/
def PageContents.wf : PageContents → Bool
  | .erased => true
  | .profile i _ => i.wf
  | .limits v _ => v.wf
  | .corrupt => true

/-- A car entry is three bytes (R217). -/
def CarEntry.wf (c : CarEntry) : Bool := fits1 c.class1 && fits1 c.class2 && fits1 c.profile

/-- Every operand fits its field. -/
def Instr.wf : Instr → Bool
  | .reset => true
  | .resetEnd _ => true
  | .startUpCheckEnd => true
  | .moveRequestRise => true
  | .moveRequestFall => true
  | .revPulse _ => true
  | .timebaseTick => true
  | .passWatchExpiry _ => true
  | .storeCompletion c => c.wf
  | .cellFrameArrival _ f => f.payload.length ≤ Config.cellPayloadMax
  | .transmissionStart _ => true
  | .transmissionEnd _ => true
  | .hello _ => true
  | .gaugeReport => true
  | .aligned => true
  | .claim _ => true
  | .grantPass _ => true
  | .startPass _ => true
  | .passDone _ => true
  | .verify _ => true
  | .release _ => true
  | .readContour _ => true
  | .contourNext _ => true
  | .emptyWindow => true
  | .readWindow _ => true
  | .malformedCommandWindow bytes => !bytes.isEmpty && bytes.head? != some Config.readMarker
  | .status => true
  | .readVisit => true
  | .lookupOrdinal n => fits1 n
  | .lookupSerial n => fits4 n
  | .listStage n => fits1 n
  | .readGroup k n => fits1 k && fits1 n
  | .readReopenList => true
  | .readStation n => fits1 n
  | .readAlignment => true
  | .readPage n => fits1 n
  | .readAttention => true
  | .replan n => fits1 n
  | .ruleAcceptDeviation n => fits1 n
  | .ruleCondemn n => fits1 n
  | .openVisit n code => fits2 n && code.length == 8
  | .loadConsist cars => 1 + 3 * cars.length ≤ Config.depotPayloadMax && cars.all CarEntry.wf
  | .setWindow w base limit => fits1 w && fits1 base && fits1 limit
  | .closeVisit k => fits1 k
  | .haltPass n => fits1 n
  | .resumePass n => fits1 n
  | .resetLink n => fits1 n
  | .openCatalogue => true
  | .writeProfileHead h => h.wf
  | .writePoints start ps => fits1 start && 2 + 4 * ps.length ≤ Config.depotPayloadMax && ps.all Point.wf
  | .writeLimits v => v.wf
  | .eraseProfile n => fits1 n
  | .commit => true
  | .storeReset => true
  | .closeCatalogue => true
  | .ackEvents m => fits2 m
  | .setEvent src en lvl => fits1 src && fits1 en && fits1 lvl
  | .malformedFrameDiscarded _ _ => true

end Sys2Proof
end

