-- ==== Sys2Proof/Decode.lean ====
section
/-! DEFINITION. Bytes to commands. No row of spec/opcode_table.json gives bits, so `decodeTableWord` spells no command. What the
manual does give is the layout of its frames (R214, R216, R217, R218): the check code, the request kinds and their payload lengths,
and the command frames of the depot port with an encoder beside their decoder. -/
namespace Sys2Proof

/-! ## Numbers and the check code -/

/-- `n` in `k` bytes, most significant byte first (R214). -/
def be : Nat → Nat → List Byte
  | 0, _ => []
  | k + 1, n => BitVec.ofNat 8 (n / 256 ^ k) :: be k n

/-- The number that bytes spell, most significant byte first (R214). -/
def fromBe (bytes : List Byte) : Nat := bytes.foldl (fun acc b => acc * 256 + b.toNat) 0

/-- The number in the `k` bytes at offset `off` of a payload (R214, R218). -/
def field (p : List Byte) (off k : Nat) : Nat := fromBe ((p.drop off).take k)

/-- One bit through the register of x^16 + x^12 + x^5 + 1 (R168). -/
def crcBit (c : CheckCode) (b : Bool) : CheckCode :=
  let shifted := c <<< 1
  if c.msb != b then shifted ^^^ 0x1021#16 else shifted

/-- One byte, most significant bit first (R168). -/
def crcByte (c : CheckCode) (b : Byte) : CheckCode :=
  [7, 6, 5, 4, 3, 2, 1, 0].foldl (fun c i => crcBit c (b.getLsbD i)) c

/-- The register after more bytes (R168). It is taken apart after each byte, so that an evaluation holds no chain of bytes behind it. -/
def crcFrom (c : CheckCode) : List Byte → CheckCode
  | [] => c
  | b :: rest =>
    match crcByte c b with
    | ⟨⟨n, h⟩⟩ => crcFrom ⟨⟨n, h⟩⟩ rest

/-- The check code of the covered bytes: the register starts at all ones and is not inverted at the end (R168). -/
def crc (covered : List Byte) : CheckCode := crcFrom 0xFFFF#16 covered

/-- The check code as sent, high byte first (R216). -/
def crcBytes (covered : List Byte) : List Byte := be 2 (crc covered).toNat

/-! ## Cell requests -/

/-- The kind code of a request (R217). -/
def RequestKind.code : RequestKind → Byte
  | .hello => 1#8
  | .gaugeReport => 2#8
  | .aligned => 3#8
  | .claim => 16#8
  | .grantPass => 17#8
  | .startPass => 18#8
  | .passDone => 19#8
  | .verify => 20#8
  | .release => 21#8
  | .readContour => 22#8
  | .contourNext => 23#8

/-- The request a kind code names, if it names one (R167, R217). -/
def requestKindOf (code : Byte) : Option RequestKind :=
  [.hello, .gaugeReport, .aligned, .claim, .grantPass, .startPass, .passDone, .verify, .release, .readContour, .contourNext].find?
    (fun k => k.code == code)

/-- The payload lengths of a request kind (R169, R217). -/
def RequestKind.fits (k : RequestKind) (length : Nat) : Bool :=
  match k with
  | .hello => length == 1
  | .gaugeReport => length == 23 || length == 27
  | .aligned => length == 3
  | .claim => length == 1
  | .grantPass => length == 2
  | .startPass => length == 0
  | .passDone => length == 6
  | .verify => length == 22
  | .release => length == 0
  | .readContour => length == 1
  | .contourNext => length == 0

/-- The request kinds a port's role admits (R167). -/
def LinkId.admits (l : LinkId) (k : RequestKind) : Bool :=
  match l, k with
  | _, .hello => true
  | .gauge, .gaugeReport => true
  | .mover, .aligned => true
  | .gauge, _ => false
  | .mover, _ => false
  | _, .gaugeReport => false
  | _, .aligned => false
  | .stationA, _ => true
  | .stationB, _ => true

/-- The bytes of a cell frame that its check code covers (R168, R216). -/
def CellFrame.covered (f : CellFrame) : List Byte := f.kind :: f.tag :: BitVec.ofNat 8 f.payload.length :: f.payload

/-- The check code a cell frame carries equals the one the receiver computes (R168). -/
def CellFrame.checkAgrees (f : CellFrame) : Bool := f.check == crc f.covered

/-- A cell frame as its sender forms it, with the check code of R168. -/
def cellFrame (kind tag : Byte) (payload : List Byte) : CellFrame :=
  let body : CellFrame := { kind := kind, tag := tag, payload := payload, check := 0#16 }
  { body with check := crc body.covered }

/-! ## Depot command frames -/

/-- Car entries of LOAD CONSIST, three bytes each (R217). -/
def carsOf : List Byte → List CarEntry
  | a :: b :: c :: rest => { class1 := a.toNat, class2 := b.toNat, profile := c.toNat } :: carsOf rest
  | _ => []

/-- Points, four bytes each, lateral position then radial offset (R217, R218). -/
def pointsOf : List Byte → List Point
  | a :: b :: c :: d :: rest => { lateral := fromBe [a, b], radial := fromBe [c, d] } :: pointsOf rest
  | _ => []

/-- The 14 bytes of a profile header (R218). -/
def headerOf (p : List Byte) : ProfileHeader :=
  { number := field p 0 1, applicability := field p 1 1, nominalThickness := field p 2 2, acceptThickness := field p 4 2,
    nominalHeight := field p 6 2, maxHeight := field p 8 2, minSteepness := field p 10 2, restoreFactor := field p 12 1,
    pointCount := field p 13 1 }

/-- The 29 bytes of the limits (R218). -/
def limitsOf (p : List Byte) : LimitValues :=
  { condemnMotor := field p 0 3, condemnTrailer := field p 3 3, bogieTolMotor := field p 6 2, bogieTolTrailer := field p 8 2,
    carTolMotor := field p 10 2, carTolTrailer := field p 12 2, axleTol := field p 14 2, finishTol := field p 16 2,
    undercutTol := field p 18 2, maxPassDepth := field p 20 2, maxPasses := field p 22 1, reopenLimit := field p 23 1,
    cleanUp := field p 24 2, watchReload := field p 26 2, watchMode := field p 28 1 }

/-- A point as sent (R218). -/
def pointBytes (p : Point) : List Byte := be 2 p.lateral ++ be 2 p.radial

/-- A car entry as sent (R217). -/
def carBytes (c : CarEntry) : List Byte := be 1 c.class1 ++ be 1 c.class2 ++ be 1 c.profile

/-- A profile header as sent and stored (R218). -/
def headerBytes (h : ProfileHeader) : List Byte :=
  be 1 h.number ++ be 1 h.applicability ++ be 2 h.nominalThickness ++ be 2 h.acceptThickness ++ be 2 h.nominalHeight
    ++ be 2 h.maxHeight ++ be 2 h.minSteepness ++ be 1 h.restoreFactor ++ be 1 h.pointCount

/-- The limits as sent and stored (R218). -/
def limitsBytes (v : LimitValues) : List Byte :=
  be 3 v.condemnMotor ++ be 3 v.condemnTrailer ++ be 2 v.bogieTolMotor ++ be 2 v.bogieTolTrailer ++ be 2 v.carTolMotor
    ++ be 2 v.carTolTrailer ++ be 2 v.axleTol ++ be 2 v.finishTol ++ be 2 v.undercutTol ++ be 2 v.maxPassDepth
    ++ be 1 v.maxPasses ++ be 1 v.reopenLimit ++ be 2 v.cleanUp ++ be 2 v.watchReload ++ be 1 v.watchMode

/-- The codes that name a host command (R217). -/
def commandCodes : List Nat :=
  [1, 2, 3, 4, 5, 6, 7, 8, 9, 10, 11, 16, 17, 18, 24, 25, 26, 27, 32, 33, 34, 40, 41, 42, 43, 44, 45, 46, 47, 48, 49]

/-- The command that a code and a payload carry; `none` where the code names no command or the length does not fit it (R201 rows 2
and 3, R217). -/
def decodeCommand (code : Nat) (p : List Byte) : Option Instr :=
  let bare (i : Instr) : Option Instr := if p.length == 0 then some i else none
  let one (f : Nat → Instr) : Option Instr := if p.length == 1 then some (f (field p 0 1)) else none
  match code with
  | 1 => bare .status
  | 2 => bare .readVisit
  | 3 => one .lookupOrdinal
  | 4 => if p.length == 4 then some (.lookupSerial (field p 0 4)) else none
  | 5 => one .listStage
  | 6 => if p.length == 2 then some (.readGroup (field p 0 1) (field p 1 1)) else none
  | 7 => bare .readReopenList
  | 8 => one .readStation
  | 9 => bare .readAlignment
  | 10 => one .readPage
  | 11 => bare .readAttention
  | 16 => one .replan
  | 17 => one .ruleAcceptDeviation
  | 18 => one .ruleCondemn
  | 24 => if p.length == 10 then some (.openVisit (field p 0 2) (p.drop 2)) else none
  | 25 => if p.length != 0 && p.length == 1 + 3 * field p 0 1 then some (.loadConsist (carsOf (p.drop 1))) else none
  | 26 => if p.length == 3 then some (.setWindow (field p 0 1) (field p 1 1) (field p 2 1)) else none
  | 27 => one .closeVisit
  | 32 => one .haltPass
  | 33 => one .resumePass
  | 34 => one .resetLink
  | 40 => bare .openCatalogue
  | 41 => if p.length == 14 then some (.writeProfileHead (headerOf p)) else none
  | 42 => if p.length ≥ 2 && p.length == 2 + 4 * field p 1 1 then some (.writePoints (field p 0 1) (pointsOf (p.drop 2))) else none
  | 43 => if p.length == 29 then some (.writeLimits (limitsOf p)) else none
  | 44 => one .eraseProfile
  | 45 => bare .commit
  | 46 => bare .storeReset
  | 47 => bare .closeCatalogue
  | 48 => if p.length == 2 then some (.ackEvents (field p 0 2)) else none
  | 49 => if p.length == 3 then some (.setEvent (field p 0 1) (field p 1 1) (field p 2 1)) else none
  | _ => none

/-- The code and payload of a host command (R217, R218); `none` for a command that does not come through the depot port. -/
def encodeCommand : Instr → Option (Nat × List Byte)
  | .status => some (1, [])
  | .readVisit => some (2, [])
  | .lookupOrdinal n => some (3, be 1 n)
  | .lookupSerial n => some (4, be 4 n)
  | .listStage n => some (5, be 1 n)
  | .readGroup k n => some (6, be 1 k ++ be 1 n)
  | .readReopenList => some (7, [])
  | .readStation n => some (8, be 1 n)
  | .readAlignment => some (9, [])
  | .readPage n => some (10, be 1 n)
  | .readAttention => some (11, [])
  | .replan n => some (16, be 1 n)
  | .ruleAcceptDeviation n => some (17, be 1 n)
  | .ruleCondemn n => some (18, be 1 n)
  | .openVisit n code => some (24, be 2 n ++ code)
  | .loadConsist cars => some (25, be 1 cars.length ++ cars.flatMap carBytes)
  | .setWindow w base limit => some (26, be 1 w ++ be 1 base ++ be 1 limit)
  | .closeVisit k => some (27, be 1 k)
  | .haltPass n => some (32, be 1 n)
  | .resumePass n => some (33, be 1 n)
  | .resetLink n => some (34, be 1 n)
  | .openCatalogue => some (40, [])
  | .writeProfileHead h => some (41, headerBytes h)
  | .writePoints start ps => some (42, be 1 start ++ be 1 ps.length ++ ps.flatMap pointBytes)
  | .writeLimits v => some (43, limitsBytes v)
  | .eraseProfile n => some (44, be 1 n)
  | .commit => some (45, [])
  | .storeReset => some (46, [])
  | .closeCatalogue => some (47, [])
  | .ackEvents m => some (48, be 2 m)
  | .setEvent src en lvl => some (49, be 1 src ++ be 1 en ++ be 1 lvl)
  | .reset | .resetEnd _ | .startUpCheckEnd | .moveRequestRise | .moveRequestFall | .revPulse _ | .timebaseTick
  | .passWatchExpiry _ | .storeCompletion _ | .cellFrameArrival _ _ | .transmissionStart _ | .transmissionEnd _ | .hello _
  | .gaugeReport | .aligned | .claim _ | .grantPass _ | .startPass _ | .passDone _ | .verify _ | .release _ | .readContour _
  | .contourNext _ | .emptyWindow | .readWindow _ | .malformedCommandWindow _ | .malformedFrameDiscarded _ _ => none

/-- A depot command frame as the host shifts it in (R216). -/
def commandFrame (code : Nat) (payload : List Byte) : List Byte :=
  let covered := BitVec.ofNat 8 code :: BitVec.ofNat 8 payload.length :: payload
  Config.depotStartMarker :: covered ++ crcBytes covered

/-- Code and payload of the bytes of a command window, where they form a complete frame whose check code agrees, with nothing after
it; `none` is row 1 of R201. -/
def parseWindow : List Byte → Option (Byte × List Byte)
  | marker :: code :: length :: rest =>
    let payload := rest.take length.toNat
    if marker == Config.depotStartMarker && length.toNat ≤ Config.depotPayloadMax && rest.length == length.toNat + 2
        && fromBe (rest.drop length.toNat) == (crc (code :: length :: payload)).toNat then
      some (code, payload)
    else none
  | _ => none

/-- The command that a word spells by the bits of spec/opcode_table.json: no row of the table gives bits, so no word spells one. -/
def decodeTableWord (_nbits _w : Nat) : Option Instr := none

end Sys2Proof
end

