-- ==== Sys2Proof/Machine/Page.lean ====
section
/-! DEFINITION. The page as stored (R183, R218): the bytes before its check code, the check code the store forms over them, and the whole
page, 208 bytes for a profile and 31 for the limits. -/
namespace Sys2Proof.Machine

/-- A profile page before its check code, 206 bytes: the header, then the 48 slots (R218). -/
def profileBody (i : ProfileImage) : List Byte := headerBytes i.header ++ i.slots.toList.flatMap pointBytes

/-- The limits page before its check code, 29 bytes (R218). -/
def limitsBody (v : LimitValues) : List Byte := limitsBytes v

/-- The check code the store forms when a page is written (R183, R193). That it is the check code of R168 over every byte before it is the
model's reading: the manual gives the rule of no other check code (log 7). -/
def pageCheckCode (body : List Byte) : CheckCode := crc body

/-- A profile page written with the check code formed for it (R183, R193). -/
def writtenProfile (i : ProfileImage) : PageContents := .profile i (pageCheckCode (profileBody i))

/-- A limits page written with the check code formed for it (R183, R193). -/
def writtenLimits (v : LimitValues) : PageContents := .limits v (pageCheckCode (limitsBody v))

/-- The stored check code agrees with the contents (R183). -/
def pageCheckAgrees : PageContents → Bool
  | .erased => false
  | .profile i c => c == pageCheckCode (profileBody i)
  | .limits v c => c == pageCheckCode (limitsBody v)
  | .corrupt => false

/-- The bytes of a stored page, its check code last, high byte first (R216, R218). The manual gives the bytes of no erased page and of none
that a stopped write left. -/
def storedBytes : PageContents → Option (List Byte)
  | .erased => none
  | .profile i c => some (profileBody i ++ be 2 c.toNat)
  | .limits v c => some (limitsBody v ++ be 2 c.toNat)
  | .corrupt => none

end Sys2Proof.Machine
end

