-- ==== Sys2Proof/Machine/Shipped.lean ====
section
/-! DEFINITION. The values the part is shipped with (R182, R184). -/
namespace Sys2Proof.Machine

/-- The limits as shipped (R184). -/
def shippedLimits : LimitValues :=
  { condemnMotor := 85500, condemnTrailer := 85000, bogieTolMotor := 100, bogieTolTrailer := 150, carTolMotor := 300,
    carTolTrailer := 400, axleTol := 30, finishTol := 20, undercutTol := 10, maxPassDepth := 300, maxPasses := 6,
    reopenLimit := 2, cleanUp := 50, watchReload := 250, watchMode := 1 }

/-- The pages as they leave the factory: 0..15 erased, 16 holding the shipped limits (R182). -/
def factoryPages : Vector PageContents 17 := (Vector.replicate 17 PageContents.erased).set 16 (writtenLimits shippedLimits)

end Sys2Proof.Machine
end

