-- ==== Sys2Proof/Machine/State.lean ====
section
/-! DEFINITION. The state of the part: every record, context, list, table, line and page the manual gives it, as plain data, and the
state right after RESET. Two output lines are functions of it and are not stored: MOVE GRANT (R151) and ATTENTION (R209). -/
namespace Sys2Proof.Machine

/-! ## Wheelset records -/

/-- The kind of a bogie (R5; 00_scope.md, "Class"). -/
inductive BogieClass where
  | motor | trailer
  deriving DecidableEq, Repr

/-- The planning state of a record (R18). -/
inductive Stage where
  | vacant | announced | planned | finished | blocked | condemned
  deriving DecidableEq, Repr

/-- A station's possession of a wheelset (R20). -/
inductive Hold where
  | free | clamped | cutting | suspended
  deriving DecidableEq, Repr

/-- The party that supplied a measurement (R7). -/
inductive MeasurementSource where
  | gauge | stationA | stationB
  deriving DecidableEq, Repr

/-- Why an evaluation could not be applied (R61). -/
inductive BlockReason where
  | exemptMember | reopenLimit | condemnLimit
  deriving DecidableEq, Repr

/-- The event that condemned a record (R12). -/
inductive CondemnCause where
  | ownWear | overcut | ruling
  deriving DecidableEq, Repr

/-- The position fields of a loaded record (R5). -/
structure Position where
  car : Nat
  bogie : Nat
  axle : Nat
  cls : BogieClass
  profile : Nat
  deriving DecidableEq, Repr

/-- The five values measured on one wheel (R7). -/
structure Wheel where
  diameter : Nat
  thickness : Nat
  height : Nat
  steepness : Nat
  defect : Nat
  deriving DecidableEq, Repr

/-- A measurement block: left and right wheel (R7). -/
structure Measurement where
  left : Wheel
  right : Wheel
  deriving DecidableEq, Repr

/-- A stored measurement with its source (R7). -/
structure Measured where
  block : Measurement
  source : MeasurementSource
  deriving DecidableEq, Repr

/-- The three fields that are present together exactly in BLOCKED (R11). -/
structure BlockInfo where
  heldBack : Nat
  reason : BlockReason
  blocker : Nat
  deriving DecidableEq, Repr

/-- A wheelset record (section 1.2). Its ordinal is its place in the table. -/
structure Record where
  position : Option Position
  stage : Stage
  hold : Hold
  holder : Option StationId
  serial : Option Nat
  measured : Option Measured
  doubtful : Bool
  target : Option Nat
  ownNeed : Option Nat
  blocked : Option BlockInfo
  passesDone : Nat
  reopenCount : Nat
  verified : Bool
  waived : Bool
  unfit : Bool
  condemnCause : Option CondemnCause
  deriving DecidableEq, Repr

/-- A record after RESET and after CLOSE VISIT (R17). -/
def Record.vacant : Record :=
  { position := none, stage := .vacant, hold := .free, holder := none, serial := none, measured := none, doubtful := false,
    target := none, ownNeed := none, blocked := none, passesDone := 0, reopenCount := 0, verified := false, waived := false,
    unfit := false, condemnCause := none }

/-! ## Groups, visit and windows -/

/-- The level of an equalisation group (R48). -/
inductive GroupKind where
  | bogie | car
  deriving DecidableEq, Repr

/-- A group record (R48). -/
structure Group where
  kind : GroupKind
  index : Nat
  cls : BogieClass
  tolerance : Nat
  members : List Nat
  floor : Option Nat
  deriving DecidableEq, Repr

/-- The visit number and train code (R81). -/
structure VisitIdentity where
  number : Nat
  trainCode : List Byte
  deriving DecidableEq, Repr

/-- One car of the consist as loaded (R81). -/
structure Car where
  class1 : BogieClass
  class2 : BogieClass
  profile : Nat
  deriving DecidableEq, Repr

/-- The visit state with the fields that are present in it (R81). The car count is the length of the consist. -/
inductive Visit where
  | noVisit
  | opened (id : VisitIdentity)
  | loaded (id : VisitIdentity) (consist : List Car)
  deriving DecidableEq, Repr

/-- The base and limit of an exempt window (R89). -/
structure Window where
  base : Nat
  limit : Nat
  deriving DecidableEq, Repr

/-! ## Gauge, stations and motion -/

/-- The gauge cell context (R100). -/
structure GaugeCounts where
  accepted : Nat
  refused : Nat
  deriving DecidableEq, Repr

/-- The contour cursor (R116). -/
structure Cursor where
  profile : Nat
  next : Nat
  deriving DecidableEq, Repr

/-- A station context (R116). -/
structure StationContext where
  enabled : Bool
  held : Option Nat
  grant : Option Nat
  passInFlight : Bool
  suspended : Bool
  watch : Nat
  cursor : Option Cursor
  deriving DecidableEq, Repr

/-- A station context after RESET (R117). `enabled` is written when reset ends. -/
def StationContext.afterReset : StationContext :=
  { enabled := true, held := none, grant := none, passInFlight := false, suspended := false, watch := 0, cursor := none }

/-- The move state (R150). -/
inductive MoveState where
  | still | pending | granted
  deriving DecidableEq, Repr

/-- The alignment table (R159). -/
structure Alignment where
  gauge : Option Nat
  stationA : Option Nat
  stationB : Option Nat
  deriving DecidableEq, Repr

/-- The alignment table with all three fields absent (R159). -/
def Alignment.empty : Alignment := { gauge := none, stationA := none, stationB := none }

/-! ## Answers and cell links -/

/-- The answer reasons (R217). -/
inductive Reason where
  | done | notFound | noVisit | visitOpen | notLoaded | alreadySet | unsettled | badOrdinal | wrongStage | heldElsewhere
  | holdsPresent | notHolding | alreadyHolding | noGrant | depthTooLarge | belowTarget | passLimit | doubtful | exempt | moving
  | notAligned | duplicateSerial | serialMismatch | passInFlight | noPass | noCursor | catalogueClosed | catalogueOpen
  | nothingStaged | profileUnusable | classMismatch | noLimits | storeBusy | starting | linkReset | disabled | wrongRole
  | inboxFull | unknown | malformed | outOfRange
  deriving DecidableEq, Repr

/-- What a block answers: the reason and the payload after it (R202, R216). -/
structure Reply where
  reason : Reason
  body : List Byte
  deriving DecidableEq, Repr

/-- A link's state (R166). -/
inductive LinkState where
  | down | up | resetting | disabled
  deriving DecidableEq, Repr

/-- The cause of the most recent fault on a link (R166). -/
inductive FaultCause where
  | none | malformed | unknown | inboxFull
  deriving DecidableEq, Repr

/-- A frame in an inbox, untaken or answered (R173). -/
structure InboxFrame where
  kind : RequestKind
  tag : Tag
  payload : List Byte
  answered : Bool
  deriving DecidableEq, Repr

/-- What a waiting outgoing frame is (R174). -/
inductive Origin where
  /-- The answer to an inbox frame. -/
  | inboxAnswer
  /-- An interface answer (R171). -/
  | interfaceAnswer
  /-- An order (R178). -/
  | order
  deriving DecidableEq, Repr

/-- A frame of an outgoing list. An answer's payload begins with its reason byte (R216). -/
structure OutFrame where
  origin : Origin
  kind : Byte
  tag : Tag
  payload : List Byte
  deriving DecidableEq, Repr

/-- A link context (R166). `transmitting`: the oldest frame of the outgoing list is being sent (R174). -/
structure LinkContext where
  state : LinkState
  inbox : List InboxFrame
  outgoing : List OutFrame
  transmitting : Bool
  fault : FaultCause
  deriving DecidableEq, Repr

/-- A link context after RESET (R166). Link 2 holds DOWN like the others until RESET_END samples the strap, after SINGLE too: the manual
gives its state only then (log 4). -/
def LinkContext.afterReset : LinkContext :=
  { state := .down, inbox := [], outgoing := [], transmitting := false, fault := .none }

/-! ## Store, port and attention -/

/-- The status of a page (R182). -/
inductive PageStatus where
  | empty | valid | unusable
  deriving DecidableEq, Repr

/-- The catalogue state (section 9.3). -/
inductive CatalogueState where
  | closed | opened | committing
  deriving DecidableEq, Repr

/-- The staging page (R186). -/
inductive Staging where
  | empty
  | profile (page : Nat) (image : ProfileImage)
  | limits (values : LimitValues)
  | erase (page : Nat)
  deriving DecidableEq, Repr

/-- An answer frame of the depot port (R202, R216); code 0 names no command. -/
structure DepotAnswer where
  code : Byte
  reply : Reply
  deriving DecidableEq, Repr

/-- The twelve attention sources, 0..11 in this order (R206). -/
inductive Source where
  | storeDone | storeFault | blocked | condemned | reopened | passOverrun | overcut | serialConflict | linkFault | moveWaiting
  | visitSettled | linkUp
  deriving DecidableEq, Repr

/-- Flag, enable and level of one attention source (R206). -/
structure SourceState where
  flag : Bool
  enable : Bool
  level : Nat
  deriving DecidableEq, Repr

/-- An attention source after RESET (R206). -/
def SourceState.afterReset : SourceState := { flag := false, enable := false, level := 0 }

/-- Where the part stands between RESET and work (R196, R197, R200). -/
inductive Phase where
  /-- RESET is asserted. -/
  | resetAsserted
  /-- STARTING: the start-up check runs. -/
  | starting
  /-- The start-up check has ended. -/
  | running
  deriving DecidableEq, Repr

/-! ## The state -/

/-- The state of the part. -/
structure State where
  phase : Phase
  /-- The STATION MODE strap as last sampled (R117, R148). -/
  stationMode : StationMode
  records : Vector Record 64
  /-- Pairs of serial and ordinal, serials rising (R26). -/
  serialMap : List (Nat × Nat)
  bogieGroups : List Group
  carGroups : List Group
  /-- Oldest reopening first (R68). -/
  reopenList : List Nat
  visit : Visit
  window1 : Option Window
  window2 : Option Window
  gaugeCounts : GaugeCounts
  stationA : StationContext
  stationB : StationContext
  moveState : MoveState
  /-- The level of the MOVE REQUEST input. -/
  moveRequest : Bool
  alignment : Alignment
  linkGauge : LinkContext
  linkA : LinkContext
  linkB : LinkContext
  linkMover : LinkContext
  pages : Vector PageContents 17
  pageStatus : Vector PageStatus 17
  catalogue : CatalogueState
  staging : Staging
  /-- The working limits (R185). -/
  limits : LimitValues
  lastAnswer : Option DepotAnswer
  /-- The bytes shifted out on data out in the latest select window that was not empty. -/
  dataOut : List Byte
  attention : Vector SourceState 12
  /-- The commands that are waiting, first in, first out. -/
  pending : List Instr
  deriving DecidableEq, Repr

/-- The part stops with a fault: the manual gives no arrival that does, so no reason exists. -/
inductive Fault where
  deriving DecidableEq, Repr

/-- The model gives a command no meaning. -/
inductive Refusal where
  /-- Raised by an arm of `exec` whose command has no meaning yet. Safe: the model stops where the part goes on. -/
  | notModelled (mnemonic : String)
  deriving DecidableEq, Repr

/-- The part right after power-up or RESET, RESET still asserted, as it leaves the factory (R17, R80, R81, R89, R100, R117, R150, R159,
R166, R182, R185, R186, R200, R206). -/
def State.reset : State :=
  { phase := .resetAsserted, stationMode := .tandem, records := Vector.replicate 64 Record.vacant, serialMap := [],
    bogieGroups := [], carGroups := [], reopenList := [], visit := .noVisit, window1 := none, window2 := none,
    gaugeCounts := { accepted := 0, refused := 0 }, stationA := .afterReset, stationB := .afterReset, moveState := .still,
    moveRequest := false, alignment := .empty, linkGauge := .afterReset, linkA := .afterReset, linkB := .afterReset,
    linkMover := .afterReset, pages := factoryPages, pageStatus := Vector.replicate 17 .empty, catalogue := .closed,
    staging := .empty, limits := shippedLimits, lastAnswer := none, dataOut := [],
    attention := Vector.replicate 12 .afterReset, pending := [] }

end Sys2Proof.Machine
end

