-- ==== Sys2Proof/Machine/Operands.lean ====
section
/-! DEFINITION. The code values of the enumerated fields (R214, R217) and the operands a request's payload carries (R217, R218). -/
namespace Sys2Proof.Machine

/-! ## Codes -/

/-- class (R214). -/
def BogieClass.code : BogieClass → Nat
  | .motor => 1
  | .trailer => 2

/-- The class a code names (R214). -/
def classOf : Nat → Option BogieClass
  | 1 => some .motor
  | 2 => some .trailer
  | _ => none

/-- stage (R214). -/
def Stage.code : Stage → Nat
  | .vacant => 0
  | .announced => 1
  | .planned => 2
  | .finished => 3
  | .blocked => 4
  | .condemned => 5

/-- The stage a code names (R214). -/
def stageOf : Nat → Option Stage
  | 0 => some .vacant
  | 1 => some .announced
  | 2 => some .planned
  | 3 => some .finished
  | 4 => some .blocked
  | 5 => some .condemned
  | _ => none

/-- hold (R214). -/
def Hold.code : Hold → Nat
  | .free => 0
  | .clamped => 1
  | .cutting => 2
  | .suspended => 3

/-- holder (R214): 0 none. -/
def holderCode : Option StationId → Nat
  | none => 0
  | some .a => 1
  | some .b => 2

/-- The station a command names (R214). -/
def stationOf : Nat → Option StationId
  | 1 => some .a
  | 2 => some .b
  | _ => none

/-- measurement source (R214). -/
def MeasurementSource.code : MeasurementSource → Nat
  | .gauge => 0
  | .stationA => 1
  | .stationB => 2

/-- block reason (R214). -/
def BlockReason.code : BlockReason → Nat
  | .exemptMember => 1
  | .reopenLimit => 2
  | .condemnLimit => 3

/-- condemn cause (R214). -/
def CondemnCause.code : CondemnCause → Nat
  | .ownWear => 1
  | .overcut => 2
  | .ruling => 3

/-- The number of a link and the code of its role, which agree (R166, R214). -/
def linkNumber : LinkId → Nat
  | .gauge => 0
  | .stationA => 1
  | .stationB => 2
  | .mover => 3

/-- The link a number names (R179). -/
def linkOf : Nat → Option LinkId
  | 0 => some .gauge
  | 1 => some .stationA
  | 2 => some .stationB
  | 3 => some .mover
  | _ => none

/-- group kind (R214). -/
def GroupKind.code : GroupKind → Nat
  | .bogie => 1
  | .car => 2

/-- The group kind a code names (R214). -/
def groupKindOf : Nat → Option GroupKind
  | 1 => some .bogie
  | 2 => some .car
  | _ => none

/-- The kinds of close (R94). -/
inductive CloseKind where
  | normal | forced
  deriving DecidableEq, Repr

/-- The close kind a code names (R214). -/
def closeKindOf : Nat → Option CloseKind
  | 1 => some .normal
  | 2 => some .forced
  | _ => none

/-- The watch modes (R132). -/
inductive WatchMode where
  | revolution | time
  deriving DecidableEq, Repr

/-- The watch mode of the working limits (R132, R214). The limits hold no other code than 1 and 2 (R183, R185). -/
def watchModeOf (v : LimitValues) : WatchMode := if v.watchMode == 2 then .time else .revolution

/-- page status (R214). -/
def PageStatus.code : PageStatus → Nat
  | .empty => 0
  | .valid => 1
  | .unusable => 2

/-- link state (R214). -/
def LinkState.code : LinkState → Nat
  | .down => 0
  | .up => 1
  | .resetting => 2
  | .disabled => 3

/-- fault cause (R214). -/
def FaultCause.code : FaultCause → Nat
  | .none => 0
  | .malformed => 1
  | .unknown => 2
  | .inboxFull => 3

/-- catalogue state (R214). -/
def CatalogueState.code : CatalogueState → Nat
  | .closed => 0
  | .opened => 1
  | .committing => 2

/-- visit state (R214). -/
def visitCode : Visit → Nat
  | .noVisit => 0
  | .opened _ => 1
  | .loaded _ _ => 2

/-- move state (R214). -/
def MoveState.code : MoveState → Nat
  | .still => 0
  | .pending => 1
  | .granted => 2

/-- answer reason (R217). -/
def Reason.code : Reason → Nat
  | .done => 1
  | .notFound => 2
  | .noVisit => 3
  | .visitOpen => 4
  | .notLoaded => 5
  | .alreadySet => 6
  | .unsettled => 7
  | .badOrdinal => 8
  | .wrongStage => 9
  | .heldElsewhere => 10
  | .holdsPresent => 11
  | .notHolding => 12
  | .alreadyHolding => 13
  | .noGrant => 14
  | .depthTooLarge => 15
  | .belowTarget => 16
  | .passLimit => 17
  | .doubtful => 18
  | .exempt => 19
  | .moving => 20
  | .notAligned => 21
  | .duplicateSerial => 22
  | .serialMismatch => 23
  | .passInFlight => 24
  | .noPass => 25
  | .noCursor => 26
  | .catalogueClosed => 27
  | .catalogueOpen => 28
  | .nothingStaged => 29
  | .profileUnusable => 30
  | .classMismatch => 31
  | .noLimits => 32
  | .storeBusy => 33
  | .starting => 34
  | .linkReset => 35
  | .disabled => 36
  | .wrongRole => 37
  | .inboxFull => 38
  | .unknown => 39
  | .malformed => 40
  | .outOfRange => 41

/-- The kind codes of the three orders (R138, R217). -/
inductive Order where
  | halt | resume | abandon
  deriving DecidableEq, Repr

/-- The kind code of an order (R217). -/
def Order.code : Order → Byte
  | .halt => 32#8
  | .resume => 33#8
  | .abandon => 34#8

/-- The applicability code of a profile admits a class (R86, R214). -/
def applicabilityAdmits (code : Nat) (c : BogieClass) : Bool :=
  match code, c with
  | 1, .motor => true
  | 2, .trailer => true
  | 3, _ => true
  | _, _ => false

/-! ## Operands of requests -/

/-- An ordinal field whose 0 stands for absent (R214). -/
def ordinalOrAbsent (n : Nat) : Option Nat := if n == 0 then none else some n

/-- The 11 bytes of one wheel (R218). -/
def wheelAt (p : List Byte) (off : Nat) : Wheel :=
  { diameter := field p off 3, thickness := field p (off + 3) 2, height := field p (off + 5) 2,
    steepness := field p (off + 7) 2, defect := field p (off + 9) 2 }

/-- The 22 bytes of a measurement block, left wheel first (R218). -/
def measurementAt (p : List Byte) (off : Nat) : Measurement := { left := wheelAt p off, right := wheelAt p (off + 11) }

/-- A diameter lies in the measurement range (R7). -/
def diameterInRange (d : Nat) : Bool := 60000 ≤ d && d ≤ 125000

/-- The five values of one wheel lie in their ranges (R7). -/
def Wheel.inRange (w : Wheel) : Bool :=
  diameterInRange w.diameter && (1500 ≤ w.thickness && w.thickness ≤ 4000) && (2000 ≤ w.height && w.height ≤ 4000)
    && (300 ≤ w.steepness && w.steepness ≤ 1500) && w.defect ≤ 500

/-- All ten values lie in their ranges (R7, R103). -/
def Measurement.inRange (m : Measurement) : Bool := m.left.inRange && m.right.inRange

/-- The smaller of the two running diameters: the current diameter (R7). -/
def Measurement.current (m : Measurement) : Nat := min m.left.diameter m.right.diameter

/-- The larger flange height (R36). -/
def Measurement.maxHeight (m : Measurement) : Nat := max m.left.height m.right.height

/-- The larger defect depth (R37). -/
def Measurement.maxDefect (m : Measurement) : Nat := max m.left.defect m.right.defect

/-- A train code character lies in the text set (R215). -/
def textChar (b : Byte) : Bool :=
  (48 ≤ b.toNat && b.toNat ≤ 57) || (65 ≤ b.toNat && b.toNat ≤ 90) || b.toNat == 32 || b.toNat == 45

/-- The serial a GAUGE REPORT carries: present when the payload has 27 bytes (R214, R217). -/
def reportSerial (p : List Byte) : Option Nat := if p.length == 27 then some (field p 23 4) else none

end Sys2Proof.Machine
end

