-- ==== Sys2Proof/Machine/Ops.lean ====
section
/-! DEFINITION. The named operations over the state: the one place where records, groups, windows, stations, links, pages and the last
answer are read and written. -/
namespace Sys2Proof.Machine

/-! ## The wheelset table -/

/-- The ordinals 1..64 (R1). -/
def ordinals : List Nat := (List.range 64).map (· + 1)

/-- The car of an ordinal (R3). -/
def carOf (n : Nat) : Nat := (n + 3) / 4

/-- The bogie of an ordinal counted across the train: the bogie index (R3). -/
def bogieIndexOf (n : Nat) : Nat := (n + 1) / 2

/-- The bogie within the car, 1..2 (R3). -/
def bogieOf (n : Nat) : Nat := (n - 1) % 4 / 2 + 1

/-- The axle within the bogie, 1..2 (R3). -/
def axleOf (n : Nat) : Nat := (n - 1) % 2 + 1

/-- The record of an ordinal; outside 1..64 there is none and this reads VACANT (R1). -/
def tableGet (t : Vector Record 64) (n : Nat) : Record :=
  if h : 1 ≤ n ∧ n ≤ 64 then t[n - 1]'(by omega) else Record.vacant

/-- Write the record of an ordinal 1..64 (R1). -/
def tableSet (t : Vector Record 64) (n : Nat) (r : Record) : Vector Record 64 :=
  if h : 1 ≤ n ∧ n ≤ 64 then t.set (n - 1) r (by omega) else t

/-- The record of an ordinal (R1). -/
def State.record (s : State) (n : Nat) : Record := tableGet s.records n

/-- Write the record of an ordinal (R2). -/
def State.setRecord (s : State) (n : Nat) (r : Record) : State := { s with records := tableSet s.records n r }

/-- Change the record of an ordinal (R2). -/
def State.modRecord (s : State) (n : Nat) (f : Record → Record) : State := s.setRecord n (f (s.record n))

/-- The table with record n made by `f n` for every ordinal (R17). -/
def tableOf (f : Nat → Record) : Vector Record 64 := ⟨⟨ordinals.map f⟩, by simp [ordinals]⟩

/-- The current diameter, absent while the measurement is absent (R7). -/
def Record.current (r : Record) : Option Nat := r.measured.map (fun m => m.block.current)

/-- The class of a record (R5). A VACANT record has none; TRAILER stands in for it, and no rule reads it. -/
def Record.cls (r : Record) : BogieClass := ((r.position.map (·.cls)).getD .trailer)

/-- The profile number of a record (R5). A VACANT record has none; 0 stands in for it, and no rule reads it. -/
def Record.profile (r : Record) : Nat := (r.position.map (·.profile)).getD 0

/-- A counted member has a target, is not CONDEMNED and is not waived (R50). -/
def Record.counted (r : Record) : Bool := r.target.isSome && r.stage != .condemned && !r.waived

/-- The number of records in a stage (R96, R98). -/
def State.stageCount (s : State) (g : Stage) : Nat := (ordinals.filter (fun n => (s.record n).stage == g)).length

/-! ## The serial map -/

/-- The ordinal the map pairs with a serial (R26). -/
def serialOrdinal (map : List (Nat × Nat)) (serial : Nat) : Option Nat := (map.find? (fun e => e.1 == serial)).map (·.2)

/-- Add a pair, serials kept rising (R26). -/
def serialInsert (serial ordinal : Nat) : List (Nat × Nat) → List (Nat × Nat)
  | [] => [(serial, ordinal)]
  | e :: rest => if serial < e.1 then (serial, ordinal) :: e :: rest else e :: serialInsert serial ordinal rest

/-! ## Visit, consist and windows -/

/-- The consist, empty where none is loaded (R81). -/
def State.consist (s : State) : List Car :=
  match s.visit with
  | .loaded _ cars => cars
  | .noVisit => []
  | .opened _ => []

/-- A consist is loaded (R82). -/
def State.isLoaded (s : State) : Bool :=
  match s.visit with
  | .loaded _ _ => true
  | .noVisit => false
  | .opened _ => false

/-- The visit state is NO VISIT (R81). -/
def State.noVisit (s : State) : Bool := s.visit == .noVisit

/-- The record count of the loaded visit (R81). -/
def State.recordCount (s : State) : Nat := 4 * s.consist.length

/-- A window is active while its limit is not below its base (R89). -/
def Window.active (w : Window) : Bool := w.base ≤ w.limit

/-- An ordinal lies in an active window, both ends included (R89). -/
def covers (w : Option Window) (n : Nat) : Bool :=
  match w with
  | none => false
  | some w => w.active && w.base ≤ n && n ≤ w.limit

/-- An ordinal is exempt (R89). -/
def State.exempt (s : State) (n : Nat) : Bool := covers s.window1 n || covers s.window2 n

/-! ## Groups -/

/-- The targets of the counted members among some ordinals (R50). -/
def State.countedTargets (s : State) (members : List Nat) : List Nat :=
  members.filterMap (fun m => if (s.record m).counted then (s.record m).target else none)

/-- The lowest target among the counted members, absent when there is none (R51). -/
def State.floorOf (s : State) (members : List Nat) : Option Nat := (s.countedTargets members).min?

/-- The bogie group of an ordinal (R48). -/
def State.bogieGroup (s : State) (n : Nat) : Option Group := s.bogieGroups.find? (fun g => g.index == bogieIndexOf n)

/-- The car group of an ordinal (R48). -/
def State.carGroup (s : State) (n : Nat) : Option Group := s.carGroups.find? (fun g => g.index == carOf n)

/-- A group with its floor recomputed when one of its members is among the changed ordinals (R51). -/
def State.refloorGroup (s : State) (changed : List Nat) (g : Group) : Group :=
  if g.members.any (fun m => changed.contains m) then { g with floor := s.floorOf g.members } else g

/-- Recompute the floors of the groups whose members changed (R51). -/
def State.refloor (s : State) (changed : List Nat) : State :=
  { s with bogieGroups := s.bogieGroups.map (s.refloorGroup changed), carGroups := s.carGroups.map (s.refloorGroup changed) }

/-- The condemn diameter of a class (R5, R184). -/
def condemnDiameter (v : LimitValues) : BogieClass → Nat
  | .motor => v.condemnMotor
  | .trailer => v.condemnTrailer

/-- The reopen list without an ordinal, the others in their order (R69). -/
def State.unlist (s : State) (n : Nat) : State := { s with reopenList := s.reopenList.filter (· != n) }

/-! ## Stations -/

/-- A station's context (R116). -/
def State.station (s : State) : StationId → StationContext
  | .a => s.stationA
  | .b => s.stationB

/-- Write a station's context. -/
def State.setStation (s : State) (st : StationId) (c : StationContext) : State :=
  match st with
  | .a => { s with stationA := c }
  | .b => { s with stationB := c }

/-- Change a station's context. -/
def State.modStation (s : State) (st : StationId) (f : StationContext → StationContext) : State :=
  s.setStation st (f (s.station st))

/-- The link of a station (R166). -/
def stationLink : StationId → LinkId
  | .a => .stationA
  | .b => .stationB

/-- The ordinal aligned at a station's cell (R159). -/
def State.alignedAt (s : State) : StationId → Option Nat
  | .a => s.alignment.stationA
  | .b => s.alignment.stationB

/-- The measurement source that names a station (R7). -/
def stationSource : StationId → MeasurementSource
  | .a => .stationA
  | .b => .stationB

/-- Either station holds a record (R152, R160). -/
def State.anyHeld (s : State) : Bool := s.stationA.held.isSome || s.stationB.held.isSome

/-- The pass watch counts (R131, R149): a pass is in flight, not suspended, and its watch was not loaded with 0. -/
def StationContext.counting (c : StationContext) : Bool := c.passInFlight && !c.suspended && c.watch != 0

/-- The holder's grant is cleared when its record leaves PLANNED (R24). -/
def State.clearHolderGrant (s : State) (n : Nat) : State :=
  match (s.record n).holder with
  | none => s
  | some st => s.modStation st (fun c => { c with grant := none })

/-! ## Motion -/

/-- MOVE GRANT is asserted exactly while the move state is GRANTED (R151). -/
def State.moveGrant (s : State) : Bool := s.moveState == .granted

/-- Empty the alignment table; the gauge counts become 0 (R100, R162). -/
def State.emptyAlignment (s : State) : State := { s with alignment := .empty, gaugeCounts := { accepted := 0, refused := 0 } }

/-- The move becomes GRANTED: MOVE GRANT asserted, the table emptied (R152, R154, R158). -/
def State.grantMove (s : State) : State := { s.emptyAlignment with moveState := .granted }

/-- A freed hold reported to the Motion Interlock completes a pending move when no record is held (R143, R154). -/
def State.holdFreed (s : State) : State := if s.moveState == .pending && !s.anyHeld then s.grantMove else s

/-! ## Links -/

/-- A link's context (R166). -/
def State.link (s : State) : LinkId → LinkContext
  | .gauge => s.linkGauge
  | .stationA => s.linkA
  | .stationB => s.linkB
  | .mover => s.linkMover

/-- Write a link's context. -/
def State.setLink (s : State) (l : LinkId) (c : LinkContext) : State :=
  match l with
  | .gauge => { s with linkGauge := c }
  | .stationA => { s with linkA := c }
  | .stationB => { s with linkB := c }
  | .mover => { s with linkMover := c }

/-- Change a link's context. -/
def State.modLink (s : State) (l : LinkId) (f : LinkContext → LinkContext) : State := s.setLink l (f (s.link l))

/-- The oldest untaken frame of an inbox (R173). -/
def LinkContext.oldestUntaken (c : LinkContext) : Option InboxFrame := c.inbox.find? (fun f => !f.answered)

/-- Mark the oldest untaken frame answered (R173). -/
def markOldest : List InboxFrame → List InboxFrame
  | [] => []
  | f :: rest => if f.answered then f :: markOldest rest else { f with answered := true } :: rest

/-- Remove the oldest answered frame, whose answer has been transmitted (R174). -/
def removeAnswered : List InboxFrame → List InboxFrame
  | [] => []
  | f :: rest => if f.answered then rest else f :: removeAnswered rest

/-- Append a frame to the outgoing list (R174). -/
def LinkContext.send (c : LinkContext) (f : OutFrame) : LinkContext := { c with outgoing := c.outgoing ++ [f] }

/-- The number of waiting frames of an origin, counting the one in transmission (R171, R178). -/
def LinkContext.waiting (c : LinkContext) (o : Origin) : Nat := (c.outgoing.filter (fun f => f.origin == o)).length

/-- The bytes of a reply in a cell answer: the reason byte, then the rest (R216). -/
def Reply.bytes (r : Reply) : List Byte := be 1 r.reason.code ++ r.body

/-- The answer to an inbox frame: it carries the frame's kind and tag (R175, R216). -/
def answerTo (f : InboxFrame) (r : Reply) : OutFrame :=
  { origin := .inboxAnswer, kind := f.kind.code, tag := f.tag, payload := r.bytes }

/-- The oldest untaken frame becomes answered and its answer is appended (R173). -/
def LinkContext.answerOldest (c : LinkContext) (f : InboxFrame) (r : Reply) : LinkContext :=
  { c.send (answerTo f r) with inbox := markOldest c.inbox }

/-- Append an interface answer, lost when four are waiting (R171). -/
def LinkContext.interfaceAnswer (c : LinkContext) (kind : Byte) (tag : Tag) (r : Reply) : LinkContext :=
  if c.waiting .interfaceAnswer < Config.interfaceAnswerDepth then
    c.send { origin := .interfaceAnswer, kind := kind, tag := tag, payload := r.bytes }
  else c

/-- Remove the oldest order of a list. -/
def dropFirstOrder : List OutFrame → List OutFrame
  | [] => []
  | f :: rest => if f.origin == .order then rest else f :: dropFirstOrder rest

/-- Remove the oldest waiting order whose transmission has not begun (R178). -/
def LinkContext.dropOrder (c : LinkContext) : LinkContext :=
  match c.transmitting, c.outgoing with
  | true, f :: rest => { c with outgoing := f :: dropFirstOrder rest }
  | _, fs => { c with outgoing := dropFirstOrder fs }

/-- Append an order for the pass on an ordinal (R178). -/
def LinkContext.order (c : LinkContext) (o : Order) (ordinal : Nat) : LinkContext :=
  let c := if c.waiting .order < Config.orderDepth then c else c.dropOrder
  c.send { origin := .order, kind := o.code, tag := 0#4, payload := be 1 ordinal }

/-- A Station Controller sends an order to its station (R138). -/
def State.sendOrder (s : State) (st : StationId) (o : Order) (ordinal : Nat) : State :=
  s.modLink (stationLink st) (fun c => c.order o ordinal)

/-- Answer the oldest untaken frame of a link (R173). -/
def State.answerInbox (s : State) (l : LinkId) (f : InboxFrame) (r : Reply) : State := s.modLink l (fun c => c.answerOldest f r)

/-- A cell frame on the wire, start marker to check code (R168, R216). -/
def OutFrame.bytes (f : OutFrame) : List Byte :=
  let covered := f.kind :: f.tag.setWidth 8 :: BitVec.ofNat 8 f.payload.length :: f.payload
  Config.cellStartMarker :: covered ++ crcBytes covered

/-! ## The profile store -/

/-- What a page holds (R182). There is no page above 16; it reads as unusable contents, and every command tests the number first. -/
def State.page (s : State) (n : Nat) : PageContents := (s.pages[n]?).getD .corrupt

/-- The status of a page (R182). -/
def State.statusOf (s : State) (n : Nat) : PageStatus := (s.pageStatus[n]?).getD .unusable

/-- The profile another block reads: the page's, while its status is VALID (R182, R199). -/
def State.validProfile (s : State) (n : Nat) : Option ProfileImage :=
  if n < Config.limitsPage && s.statusOf n == .valid then
    match s.page n with
    | .profile i _ => some i
    | .erased => none
    | .limits _ _ => none
    | .corrupt => none
  else none

/-- The points of a profile that count: slots 0..point count − 1 (R183). -/
def imagePoints (i : ProfileImage) : List Point := i.slots.toList.take i.header.pointCount

/-! ## The depot port -/

/-- A reply that carries its reason alone. -/
def Reply.bare (r : Reason) : Reply := { reason := r, body := [] }

/-- The frame of an answer (R216). -/
def DepotAnswer.bytes (a : DepotAnswer) : List Byte :=
  let covered := a.code :: BitVec.ofNat 8 a.reply.reason.code :: BitVec.ofNat 8 a.reply.body.length :: a.reply.body
  Config.depotStartMarker :: covered ++ crcBytes covered

/-- The empty answer: command code 0, reason 0, no payload (R216). -/
def emptyAnswerBytes : List Byte :=
  let covered : List Byte := [0#8, 0#8, 0#8]
  Config.depotStartMarker :: covered ++ crcBytes covered

/-- The answer to a command window replaces the last answer, and filler has been shifted out for each byte shifted in (R200). -/
def State.putAnswer (s : State) (windowBytes : Nat) (code : Byte) (r : Reply) : State :=
  { s with lastAnswer := some { code := code, reply := r }, dataOut := List.replicate windowBytes Config.filler }

/-- The answer to the window that carried host command `i`, echoing its code (R202). -/
def State.answerCommand (s : State) (i : Instr) (r : Reply) : State :=
  let c := (encodeCommand i).getD (0, [])
  s.putAnswer (5 + c.2.length) (BitVec.ofNat 8 c.1) r

end Sys2Proof.Machine
end

