-- ==== Sys2Proof/Machine/Flags.lean ====
section
/-! DEFINITION. The attention flags: which condition holds, how a source is flagged, and the ATTENTION line (R206 to R210). -/
namespace Sys2Proof.Machine

/-- The number of a source (R206). -/
def Source.index : Source → Fin 12
  | .storeDone => 0
  | .storeFault => 1
  | .blocked => 2
  | .condemned => 3
  | .reopened => 4
  | .passOverrun => 5
  | .overcut => 6
  | .serialConflict => 7
  | .linkFault => 8
  | .moveWaiting => 9
  | .visitSettled => 10
  | .linkUp => 11

/-- The twelve sources in the order of their numbers (R206). -/
def allSources : List Source :=
  [.storeDone, .storeFault, .blocked, .condemned, .reopened, .passOverrun, .overcut, .serialConflict, .linkFault, .moveWaiting,
    .visitSettled, .linkUp]

/-- The source a number names (R212). -/
def sourceOf (n : Nat) : Option Source := allSources[n]?

/-- Flag, enable and level of a source (R206). -/
def State.source (s : State) (k : Source) : SourceState := s.attention[k.index]

/-- Write a source. -/
def State.setSource (s : State) (k : Source) (x : SourceState) : State := { s with attention := s.attention.set k.index x }

/-- Set a source's flag, whatever its enable and level (R207). -/
def State.flag (s : State) (k : Source) : State := s.setSource k { s.source k with flag := true }

/-- The visit is settled: LOADED, every record of the consist FINISHED or CONDEMNED, and none held (R93). -/
def State.settled (s : State) : Bool :=
  s.isLoaded
    && ordinals.all (fun n =>
      (s.recordCount < n || (s.record n).stage == .finished || (s.record n).stage == .condemned) && (s.record n).hold == .free)

/-- The condition of a condition source holds; an event source has none (R208). -/
def State.condition (s : State) : Source → Bool
  | .blocked => ordinals.any (fun n => (s.record n).stage == .blocked)
  | .reopened => !s.reopenList.isEmpty
  | .moveWaiting => s.moveState == .pending
  | .visitSettled => s.settled
  | .storeDone => false
  | .storeFault => false
  | .condemned => false
  | .passOverrun => false
  | .overcut => false
  | .serialConflict => false
  | .linkFault => false
  | .linkUp => false

/-- Flag a condition source in the step in which its condition starts to hold (R208). -/
def State.flagIfStarts (before s : State) (k : Source) : State :=
  if s.condition k && !before.condition k then s.flag k else s

/-- Flag every condition source whose condition this step started (R19, R208). -/
def State.flagStarts (before s : State) : State :=
  [Source.blocked, .reopened, .moveWaiting, .visitSettled].foldl (fun t k => State.flagIfStarts before t k) s

/-- A source asserts the line: flag set, enable yes, level 1 or more (R209). -/
def SourceState.asserts (x : SourceState) : Bool := x.flag && x.enable && 1 ≤ x.level

/-- The level of the ATTENTION line (R209). -/
def State.attentionLine (s : State) : Bool := allSources.any (fun k => (s.source k).asserts)

/-- Prefer the later source only where its level is higher, so the lowest number wins among equals (R210). -/
def State.preferred (s : State) (best : Option Source) (k : Source) : Option Source :=
  if (s.source k).asserts then
    match best with
    | none => some k
    | some b => if (s.source b).level < (s.source k).level then some k else some b
  else best

/-- The selected source: the asserting source of the highest level, of several the lowest number (R210). -/
def State.selected (s : State) : Option Source := allSources.foldl s.preferred none

/-- Acknowledge one source: clear its flag, and set it again where its condition still holds (R211). -/
def State.acknowledge (s : State) (k : Source) : State := s.setSource k { s.source k with flag := s.condition k }

end Sys2Proof.Machine
end

