-- ==== Sys2Proof/Machine/Layout.lean ====
section
/-! DEFINITION. The byte layouts of the answers the part forms (R214, R216, R218). -/
namespace Sys2Proof.Machine

/-- yes/no: 1 or 0 (R214). -/
def yesNo (b : Bool) : Nat := if b then 1 else 0

/-- One byte for a yes/no field. -/
def flagByte (b : Bool) : List Byte := be 1 (yesNo b)

/-- An ordinal field, 0 for absent, with no presence byte (R214). -/
def ordinalByte (o : Option Nat) : List Byte := be 1 (o.getD 0)

/-- An optional field of `k` bytes behind its presence byte; the bytes of an absent field are 0 (R214). -/
def optional (k : Nat) (o : Option Nat) : List Byte := flagByte o.isSome ++ be k (o.getD 0)

/-- A list of bytes behind its count (R214). -/
def counted (l : List Nat) : List Byte := be 1 l.length ++ l.flatMap (be 1)

/-- One wheel (R218). -/
def wheelBytes (w : Wheel) : List Byte := be 3 w.diameter ++ be 2 w.thickness ++ be 2 w.height ++ be 2 w.steepness ++ be 2 w.defect

/-- The measurement block, 22 bytes, left wheel first (R218). -/
def measurementBytes (m : Measurement) : List Byte := wheelBytes m.left ++ wheelBytes m.right

/-- The presence byte of the record snapshot (R218). -/
def presence (r : Record) : Nat :=
  yesNo r.position.isSome + 2 * yesNo r.holder.isSome + 4 * yesNo r.serial.isSome + 8 * yesNo r.measured.isSome
    + 16 * yesNo r.target.isSome + 32 * yesNo r.ownNeed.isSome + 64 * yesNo r.blocked.isSome + 128 * yesNo r.condemnCause.isSome

/-- The position fields, 5 bytes (R218). -/
def positionBytes : Option Position → List Byte
  | none => be 5 0
  | some p => be 1 p.car ++ be 1 p.bogie ++ be 1 p.axle ++ be 1 p.cls.code ++ be 1 p.profile

/-- The record snapshot, 55 bytes (R28, R218). -/
def snapshot (n : Nat) (r : Record) : List Byte :=
  be 1 n ++ be 1 (presence r) ++ positionBytes r.position ++ be 1 r.stage.code ++ be 1 r.hold.code ++ be 1 (holderCode r.holder)
    ++ be 4 (r.serial.getD 0)
    ++ ((r.measured.map (fun m => measurementBytes m.block)).getD (be 22 0))
    ++ be 1 ((r.measured.map (fun m => m.source.code)).getD 0)
    ++ flagByte r.doubtful ++ be 3 (r.target.getD 0) ++ be 3 (r.ownNeed.getD 0)
    ++ be 3 ((r.blocked.map (·.heldBack)).getD 0) ++ be 1 ((r.blocked.map (·.reason.code)).getD 0)
    ++ be 1 ((r.blocked.map (·.blocker)).getD 0)
    ++ be 1 r.passesDone ++ be 1 r.reopenCount ++ flagByte r.verified ++ flagByte r.waived ++ flagByte r.unfit
    ++ be 1 ((r.condemnCause.map (·.code)).getD 0)

/-- The snapshot of a record of the table (R28). -/
def State.snapshot (s : State) (n : Nat) : List Byte := Machine.snapshot n (s.record n)

/-- One member of a group snapshot, 6 bytes (R218). -/
def State.memberBytes (s : State) (m : Nat) : List Byte :=
  let r := s.record m
  be 1 m ++ flagByte r.counted ++ optional 3 r.target

/-- The group snapshot (R53, R218). -/
def State.groupBytes (s : State) (g : Group) : List Byte :=
  be 1 g.kind.code ++ be 1 g.index ++ be 1 g.cls.code ++ be 2 g.tolerance ++ optional 3 g.floor ++ be 1 g.members.length
    ++ g.members.flatMap s.memberBytes

/-- The stages in the order of their codes (R214). -/
def allStages : List Stage := [.vacant, .announced, .planned, .finished, .blocked, .condemned]

/-- The number of records in each of the six stages (R96, R98). -/
def State.stageCounts (s : State) : List Byte := allStages.flatMap (fun g => be 1 (s.stageCount g))

/-- One window: base and limit as ordinals, and whether it is active (R98, R214). -/
def windowBytes (w : Option Window) : List Byte :=
  ordinalByte (w.map (·.base)) ++ ordinalByte (w.map (·.limit)) ++ flagByte ((w.map Window.active).getD false)

/-- The identity: number and train code, each behind its presence byte (R98, R214). -/
def identityBytes : Option VisitIdentity → List Byte
  | none => flagByte false ++ be 2 0 ++ flagByte false ++ be 8 0
  | some id => flagByte true ++ be 2 id.number ++ flagByte true ++ id.trainCode

/-- The identity present in a visit state (R81). -/
def Visit.identity : Visit → Option VisitIdentity
  | .noVisit => none
  | .opened id => some id
  | .loaded id _ => some id

/-- One car of the consist: its two classes and its profile number (R98). -/
def loadedCarBytes (c : Car) : List Byte := be 1 c.class1.code ++ be 1 c.class2.code ++ be 1 c.profile

/-- The visit as READ VISIT returns it (R98). -/
def State.visitBytes (s : State) : List Byte :=
  be 1 (visitCode s.visit) ++ identityBytes s.visit.identity ++ flagByte s.isLoaded ++ be 1 s.consist.length
    ++ s.consist.flatMap loadedCarBytes ++ windowBytes s.window1 ++ windowBytes s.window2 ++ flagByte s.settled ++ s.stageCounts

/-- The station context as READ STATION returns it (R149). -/
def State.stationBytes (s : State) (st : StationId) : List Byte :=
  let c := s.station st
  flagByte c.enabled ++ ordinalByte c.held ++ be 1 ((c.held.map (fun n => (s.record n).hold.code)).getD 0) ++ optional 2 c.grant
    ++ flagByte c.passInFlight ++ flagByte c.suspended ++ be 2 c.watch ++ flagByte c.counting ++ flagByte c.cursor.isSome
    ++ be 1 ((c.cursor.map (·.profile)).getD 0) ++ be 1 ((c.cursor.map (·.next)).getD 0)

/-- The alignment table, three ordinal fields (R161, R164). -/
def alignmentBytes (a : Alignment) : List Byte := ordinalByte a.gauge ++ ordinalByte a.stationA ++ ordinalByte a.stationB

/-- The held ordinal of each station, 0 for none (R160, R164). -/
def State.heldBytes (s : State) : List Byte := ordinalByte s.stationA.held ++ ordinalByte s.stationB.held

/-- The interlock as READ ALIGNMENT returns it (R164). -/
def State.interlockBytes (s : State) : List Byte :=
  be 1 s.moveState.code ++ flagByte s.moveRequest ++ flagByte s.moveGrant ++ alignmentBytes s.alignment ++ s.heldBytes
    ++ be 1 s.gaugeCounts.accepted ++ be 1 s.gaugeCounts.refused

/-- The contents of a page as READ PAGE returns them (R198, R218): the stored bytes without the slots from the point count upwards and
without the check code. -/
def contentsBytes : PageContents → List Byte
  | .erased => []
  | .profile i _ => headerBytes i.header ++ (imagePoints i).flatMap pointBytes
  | .limits v _ => limitsBytes v
  | .corrupt => []

/-- Flag, enable and level of a source (R210, R212). -/
def sourceBytes (x : SourceState) : List Byte := flagByte x.flag ++ flagByte x.enable ++ be 1 x.level

/-- The sources as READ ATTENTION returns them (R210). -/
def State.attentionBytes (s : State) : List Byte :=
  optional 1 (s.selected.map (fun k => k.index.val)) ++ allSources.flatMap (fun k => sourceBytes (s.source k))

/-- The twelve flags as ACK EVENTS returns them (R211). -/
def State.flagBytes (s : State) : List Byte := allSources.flatMap (fun k => flagByte (s.source k).flag)

/-- The four links in the order of their numbers (R166). -/
def allLinks : List LinkId := [.gauge, .stationA, .stationB, .mover]

/-- The status word, 13 bytes (R205, R218). -/
def State.statusWord (s : State) : List Byte :=
  flagByte (s.phase == .starting) ++ be 1 s.catalogue.code ++ be 1 (visitCode s.visit) ++ be 1 s.moveState.code
    ++ flagByte s.attentionLine ++ allLinks.flatMap (fun l => be 1 (s.link l).state.code)
    ++ allLinks.flatMap (fun l => be 1 (s.link l).fault.code)

end Sys2Proof.Machine
end

