-- ==== Sys2Proof/Machine/Taking.lean ====
section
/-! DEFINITION. How a block takes a command: a request from an inbox (R173), or a host command from the depot port (R201 row 4 and 5,
R202). In each the block's own rule is a function of the state that gives the changed state and the reply; the arrival is one step. -/
namespace Sys2Proof.Machine

/-- The outcome of a command. -/
abbrev Result := Host.Outcome State Fault Refusal

/-- What a block's rule gives: the state it leaves and its reply. -/
abbrev Taken := State × Reply

/-- A refusal: the state it concerns unchanged (R4), the reason alone (R214). -/
def refuse (s : State) (r : Reason) : Taken := (s, Reply.bare r)

/-- A refusal that carries a value after its reason (R214). -/
def refuseWith (s : State) (r : Reason) (body : List Byte) : Taken := (s, { reason := r, body := body })

/-- An accepted command: DONE with the payload its rule gives. -/
def done (s : State) (body : List Byte) : Taken := (s, { reason := .done, body := body })

/-- A host command passed on by the port is taken by its owner in the step that ends its window, and its answer is written (R202).
While the part is STARTING it is answered STARTING (R201 row 4); while RESET is asserted the port takes no window (R200). -/
def portCommand (i : Instr) (owner : State → Taken) (s : State) : Result :=
  match s.phase with
  | .resetAsserted => .next s
  | .starting => .next (s.answerCommand i (.bare .starting))
  | .running => .next ((State.flagStarts s (owner s).1).answerCommand i (owner s).2)

/-- The oldest untaken frame of an UP link, when it is a request of kind `k` (R118, R173). -/
def State.nextRequest (s : State) (l : LinkId) (k : RequestKind) : Option InboxFrame :=
  if (s.link l).state == .up then
    match (s.link l).oldestUntaken with
    | some f => if f.kind == k then some f else none
    | none => none
  else none

/-- The oldest untaken frame of a link, a request of kind `k`, is taken by its owner and answered under its tag (R173, R175). With no
such frame there is nothing to take, and nothing changes. -/
def serve (l : LinkId) (k : RequestKind) (owner : List Byte → State → Taken) (s : State) : Result :=
  match s.nextRequest l k with
  | none => .next s
  | some f => .next ((State.flagStarts s (owner f.payload s).1).answerInbox l f (owner f.payload s).2)

end Sys2Proof.Machine
end

