-- ==== Sys2Proof/Machine/AttentionUnit.lean ====
section
/-! DEFINITION. The commands of the Attention Unit (sections 10.5 and 10.6). -/
namespace Sys2Proof.Machine

/-- READ ATTENTION (R210). -/
def takeReadAttention (s : State) : Taken := done s s.attentionBytes

/-- READ_ATTENTION (R210). -/
def execReadAttention (s : State) : Result := portCommand .readAttention takeReadAttention s

/-- The mask names a source: the bit of value 2 to the power of its number (R217). -/
def maskNames (mask : Nat) (k : Source) : Bool := mask.testBit k.index.val

/-- Every source the mask names is acknowledged (R211). -/
def State.acknowledgeMask (s : State) (mask : Nat) : State :=
  allSources.foldl (fun t k => if maskNames mask k then t.acknowledge k else t) s

/-- ACK EVENTS (R211): a mask with a bit above 11 is out of range. -/
def takeAckEvents (mask : Nat) (s : State) : Taken :=
  if 4096 ≤ mask then refuse s .outOfRange else done (s.acknowledgeMask mask) (s.acknowledgeMask mask).flagBytes

/-- ACK_EVENTS (R211). -/
def execAckEvents (mask : Nat) (s : State) : Result := portCommand (.ackEvents mask) (takeAckEvents mask) s

/-- A source programmed: enable and level, the flag unchanged (R212). -/
def State.program (s : State) (k : Source) (enable level : Nat) : State :=
  s.setSource k { flag := (s.source k).flag, enable := enable == 1, level := level }

/-- SET EVENT (R212). -/
def takeSetEvent (number enable level : Nat) (s : State) : Taken :=
  match sourceOf number with
  | none => refuse s .outOfRange
  | some k =>
    if 1 < enable || 7 < level then refuse s .outOfRange
    else done (s.program k enable level) (sourceBytes ((s.program k enable level).source k))

/-- SET_EVENT (R212). -/
def execSetEvent (number enable level : Nat) (s : State) : Result :=
  portCommand (.setEvent number enable level) (takeSetEvent number enable level) s

end Sys2Proof.Machine
end

