-- ==== Sys2Proof/Machine/Assessment.lean ====
section
/-! DEFINITION. The wear assessment and the verification test (chapter 2). -/
namespace Sys2Proof.Machine

/-- Whether a measurement meets the acceptance tests (R31, R34). -/
inductive Verdict where
  | accepted | rejected
  deriving DecidableEq, Repr

/-- The result of a wear assessment (R31). -/
structure Assessment where
  verdict : Verdict
  flangeLoss : Nat
  heightLoss : Nat
  defectLoss : Nat
  minimumLoss : Nat
  realOwnLoss : Nat
  exempt : Bool
  ownNeed : Nat
  unfit : Bool
  deriving DecidableEq, Repr

/-- One wheel passes the four acceptance tests (R34). -/
def wheelAccepted (h : ProfileHeader) (w : Wheel) : Bool :=
  h.acceptThickness ≤ w.thickness && w.height ≤ h.maxHeight && h.minSteepness ≤ w.steepness && w.defect == 0

/-- The verdict: all eight comparisons hold (R34). -/
def verdictOf (h : ProfileHeader) (m : Measurement) : Verdict :=
  if wheelAccepted h m.left && wheelAccepted h m.right then .accepted else .rejected

/-- The larger shortfall times the restore factor over 4, rounded up (R35). -/
def flangeLossOf (h : ProfileHeader) (m : Measurement) : Nat :=
  (max (h.nominalThickness - m.left.thickness) (h.nominalThickness - m.right.thickness) * h.restoreFactor + 3) / 4

/-- Twice the rise of the larger flange height above nominal (R36). -/
def heightLossOf (h : ProfileHeader) (m : Measurement) : Nat := 2 * (m.maxHeight - h.nominalHeight)

/-- Twice the deepest defect and the clean-up allowance, 0 where there is no defect (R37). -/
def defectLossOf (cleanUp : Nat) (m : Measurement) : Nat := if m.maxDefect == 0 then 0 else 2 * (m.maxDefect + cleanUp)

/-- Twice the clean-up allowance (R38). -/
def minimumLossOf (cleanUp : Nat) : Nat := 2 * cleanUp

/-- The loss the profile requires: 0 when ACCEPTED, else the largest of the four (R38). -/
def realOwnLossOf (h : ProfileHeader) (cleanUp : Nat) (m : Measurement) : Nat :=
  match verdictOf h m with
  | .accepted => 0
  | .rejected => max (max (flangeLossOf h m) (heightLossOf h m)) (max (defectLossOf cleanUp m) (minimumLossOf cleanUp))

/-- The wear assessment of a measurement against a profile (R31 to R41). -/
def assess (h : ProfileHeader) (cleanUp : Nat) (exempt : Bool) (m : Measurement) : Assessment :=
  let loss := realOwnLossOf h cleanUp m
  { verdict := verdictOf h m, flangeLoss := flangeLossOf h m, heightLoss := heightLossOf h m,
    defectLoss := defectLossOf cleanUp m, minimumLoss := minimumLossOf cleanUp, realOwnLoss := loss, exempt := exempt,
    ownNeed := if exempt then m.current else m.current - loss, unfit := exempt && 0 < loss }

/-- The assessment of a record on its stored measurement, against its profile, with the windows as they stand (R30, R32, R40). -/
def State.assessment (s : State) (n : Nat) : Option Assessment :=
  match (s.record n).measured, s.validProfile (s.record n).profile with
  | some m, some p => some (assess p.header s.limits.cleanUp (s.exempt n) m.block)
  | none, _ => none
  | some _, none => none

/-- A diameter lies in the band about a target, both ends included (R44). -/
def inBand (v : LimitValues) (target d : Nat) : Bool := target ≤ d + v.undercutTol && d ≤ target + v.finishTol

/-- The verification test (R44): stage PLANNED, verdict ACCEPTED, both diameters in the band, the wheels within the axle tolerance. -/
def verificationTest (v : LimitValues) (r : Record) (verdict : Verdict) (m : Measurement) : Bool :=
  match r.target with
  | none => false
  | some t =>
    r.stage == .planned && verdict == .accepted && inBand v t m.left.diameter && inBand v t m.right.diameter
      && m.left.diameter - m.right.diameter ≤ v.axleTol && m.right.diameter - m.left.diameter ≤ v.axleTol

end Sys2Proof.Machine
end

