-- ==== Sys2Proof/Machine/Planner.lean ====
section
/-! DEFINITION. The planning evaluation (sections 3.1 and 3.2): assess, condemn, candidate target, cascade, obstacles, application. -/
namespace Sys2Proof.Machine

/-- What step 1 hands on: the own need, the exemption, and the real own loss for the finish test, 0 when exempt (R31, R42, R55). -/
structure Handed where
  ownNeed : Nat
  exempt : Bool
  loss : Nat
  deriving DecidableEq, Repr

/-- A marked lowering: a member and its new target (R59). -/
structure Lowering where
  ordinal : Nat
  target : Nat
  deriving DecidableEq, Repr

/-- The current diameter lies above a figure. -/
def Record.above (r : Record) (d : Nat) : Bool :=
  match r.current with
  | some c => d < c
  | none => false

/-- The smaller of a value and one that may be absent (R57). -/
def minWith (a : Nat) : Option Nat → Nat
  | none => a
  | some b => min a b

/-! ## Condemnation -/

/-- A record becomes CONDEMNED: it keeps its target, loses its block fields, leaves the reopen list, stops being counted; its holder's
grant is cleared, its verified mark is no, and CONDEMNED is flagged (R12, R19, R24, R56, R77, R128). -/
def State.condemn (s : State) (n : Nat) (cause : CondemnCause) : State :=
  let s := s.clearHolderGrant n
  let s := s.modRecord n (fun r =>
    { r with stage := .condemned, condemnCause := some cause, blocked := none, verified := false })
  ((s.unlist n).refloor [n]).flag .condemned

/-! ## Step 3: the candidate target -/

/-- A group bound: the lowest target among the counted members other than the subject, plus the group's tolerance (R57). -/
def State.groupBound (s : State) (n : Nat) (g : Option Group) : Option Nat :=
  match g with
  | none => none
  | some g => (s.floorOf (g.members.filter (· != n))).map (· + g.tolerance)

/-- The candidate target (R57), without group bounds for a waived subject (R58). -/
def State.candidate (s : State) (n need : Nat) : Nat :=
  let own := minWith need (s.record n).target
  if (s.record n).waived then own
  else minWith (minWith own (s.groupBound n (s.bogieGroup n))) (s.groupBound n (s.carGroup n))

/-! ## Step 4: the cascade -/

/-- The bound a group sets on one of its members when the subject stands at `t` (R59). -/
def boundOn (t m : Nat) (g : Option Group) : Option Nat :=
  match g with
  | none => none
  | some g => if g.members.contains m then some (t + g.tolerance) else none

/-- The smaller of the bounds that the subject's two groups set on a member (R59, R60). -/
def State.memberBound (s : State) (n t m : Nat) : Option Nat :=
  match boundOn t m (s.bogieGroup n), boundOn t m (s.carGroup n) with
  | none, b => b
  | some a, b => some (minWith a b)

/-- The lowering of one member, when it is counted and stands above its bound (R59). -/
def State.loweringOf (s : State) (n t m : Nat) : Option Lowering :=
  if m == n || !(s.record m).counted then none
  else
    match (s.record m).target, s.memberBound n t m with
    | some old, some bound => if bound < old then some { ordinal := m, target := bound } else none
    | none, _ => none
    | some _, none => none

/-- The set of lowerings that `t` calls for, in ascending ordinal (R59, R60); none for a waived subject (R58). All neighbours are
members of the subject's car group (R54). -/
def State.lowerings (s : State) (n t : Nat) : List Lowering :=
  if (s.record n).waived then []
  else (((s.carGroup n).map (·.members)).getD []).filterMap (s.loweringOf n t)

/-! ## Step 5: obstacles -/

/-- The stage test of step 6 (R65): unheld, no real own loss or exempt, and within the target and the finish tolerance. -/
def finishes (v : LimitValues) (r : Record) (h : Handed) (t : Nat) : Bool :=
  r.hold == .free && (h.loss == 0 || h.exempt) && !r.above (t + v.finishTol)

/-- A lowered member would reopen (R61). -/
def wouldReopen (v : LimitValues) (r : Record) (t : Nat) : Bool := r.stage == .finished && r.above (t + v.finishTol)

/-- The reason for which a lowered member is an obstacle, the first of its rows (R61). -/
def State.memberObstacle (s : State) (l : Lowering) : Option (Nat × BlockReason) :=
  let r := s.record l.ordinal
  if s.exempt l.ordinal then some (l.ordinal, .exemptMember)
  else if wouldReopen s.limits r l.target && r.reopenCount == s.limits.reopenLimit then some (l.ordinal, .reopenLimit)
  else if l.target < condemnDiameter s.limits r.cls then some (l.ordinal, .condemnLimit)
  else none

/-- The subject's own REOPEN LIMIT applies: FINISHED, the stage test would leave it PLANNED, its reopen count at the limit (R61). A record
this has blocked is no longer FINISHED, so a repeat of the report that blocked it finds no obstacle here and leaves it PLANNED; R61 and R111
say so, R112's sentence on repeats leaves it open, and the model follows the two (log 29). -/
def State.ownReopenLimit (s : State) (n : Nat) (h : Handed) (t : Nat) : Bool :=
  let r := s.record n
  r.stage == .finished && !finishes s.limits r h t && r.reopenCount == s.limits.reopenLimit

/-- The target falls below the existing one (R61). -/
def fallsBelow (t : Nat) : Option Nat → Bool
  | none => false
  | some old => t < old

/-- The reason for which the subject is an obstacle, the first of its rows (R61). -/
def State.subjectObstacle (s : State) (n : Nat) (h : Handed) (t : Nat) : Option (Nat × BlockReason) :=
  let r := s.record n
  if s.exempt n && fallsBelow t r.target then some (n, .exemptMember)
  else if s.ownReopenLimit n h t then some (n, .reopenLimit)
  else if t < condemnDiameter s.limits r.cls then some (n, .condemnLimit)
  else none

/-- The obstacle with the lowest ordinal (R62). -/
def lowestObstacle : List (Nat × BlockReason) → Option (Nat × BlockReason)
  | [] => none
  | o :: rest =>
    match lowestObstacle rest with
    | none => some o
    | some b => if b.1 < o.1 then some b else some o

/-- The obstacle that names the block: the subject's own REOPEN LIMIT where it applies, otherwise the lowest ordinal (R62). -/
def State.chosenObstacle (s : State) (n : Nat) (h : Handed) (t : Nat) (ls : List Lowering) : Option (Nat × BlockReason) :=
  if s.ownReopenLimit n h t then some (n, .reopenLimit)
  else lowestObstacle ((s.subjectObstacle n h t).toList ++ ls.filterMap s.memberObstacle)

/-- The subject becomes BLOCKED and nothing of the cascade is applied (R62): target and counts kept, `t` held back, off the reopen
list, its holder's grant cleared and its verified mark no. -/
def State.block (s : State) (n t : Nat) (o : Nat × BlockReason) : State :=
  let s := s.clearHolderGrant n
  let s := s.modRecord n (fun r =>
    { r with stage := .blocked, blocked := some { heldBack := t, reason := o.2, blocker := o.1 }, verified := false })
  s.unlist n

/-! ## Step 6: application -/

/-- A record reopened: PLANNED, its reopen count one higher, its passes done 0 (R13, R14, R64). -/
def Record.reopened (r : Record) : Record := { r with stage := .planned, reopenCount := r.reopenCount + 1, passesDone := 0 }

/-- A lowered member (R63): verified no if held; reopened if FINISHED and now beyond its target and the finish tolerance; its
held-back target following it down if BLOCKED. -/
def Record.lowered (v : LimitValues) (r : Record) (t : Nat) : Record :=
  let r' := { r with target := some t, verified := r.verified && r.hold == Hold.free,
                     blocked := r.blocked.map (fun b => { b with heldBack := min b.heldBack t }) }
  if wouldReopen v r t then r'.reopened else r'

/-- The subject after an applied evaluation (R65): target `t`, no block fields, verified no where a held record's target changed; the
stage by the stage test, reopened when it goes from FINISHED to PLANNED. -/
def Record.applied (v : LimitValues) (r : Record) (h : Handed) (t : Nat) : Record :=
  let r' := { r with target := some t, blocked := none, verified := r.verified && (r.hold == Hold.free || r.target == some t) }
  if finishes v r h t then { r' with stage := .finished }
  else if r.stage == .finished then r'.reopened
  else { r' with stage := .planned }

/-- The ordinals taken from FINISHED to PLANNED between two states, in ascending ordinal (R64). -/
def reopenedBetween (before after : State) : List Nat :=
  ordinals.filter (fun m => (before.record m).stage == .finished && (after.record m).stage == .planned)

/-- The records of an applied evaluation: every lowered member at its new target, then the subject (R63, R65). -/
def State.applyRecords (s : State) (n : Nat) (h : Handed) (t : Nat) (ls : List Lowering) : State :=
  (ls.foldl (fun u l => u.modRecord l.ordinal (fun r => r.lowered s.limits l.target)) s).modRecord n
    (fun r => r.applied s.limits h t)

/-- The application (R63 to R65): records, reopen list, floors. -/
def State.applyEvaluation (s : State) (n : Nat) (h : Handed) (t : Nat) (ls : List Lowering) : State :=
  let u := s.applyRecords n h t ls
  let u := { u with reopenList := u.reopenList ++ reopenedBetween s u }
  let u := if (u.record n).stage == .finished then u.unlist n else u
  u.refloor (n :: ls.map (·.ordinal))

/-! ## The evaluation -/

/-- Steps 3 to 6 for a subject that goes on past step 2. -/
def State.plan (s : State) (n : Nat) (h : Handed) : State :=
  let t := s.candidate n h.ownNeed
  let ls := s.lowerings n t
  match s.chosenObstacle n h t ls with
  | some o => s.block n t o
  | none => s.applyEvaluation n h t ls

/-- Steps 2 to 6 (R55, R56): a CONDEMNED subject ends after step 1; a subject that is not exempt and whose own need lies below its
class's condemn diameter is condemned for OWN WEAR. -/
def State.evaluate (s : State) (n : Nat) (h : Handed) : State :=
  if (s.record n).stage == .condemned then s
  else if !h.exempt && h.ownNeed < condemnDiameter s.limits (s.record n).cls then s.condemn n .ownWear
  else s.plan n h

/-- What an assessment hands on (R31). -/
def Assessment.handed (a : Assessment) : Handed :=
  { ownNeed := a.ownNeed, exempt := a.exempt, loss := if a.exempt then 0 else a.realOwnLoss }

/-- Step 1 from an assessment: own need and unfit mark written (R31, R55). -/
def State.writeAssessment (s : State) (n : Nat) (a : Assessment) : State :=
  s.modRecord n (fun r => { r with ownNeed := some a.ownNeed, unfit := a.unfit })

/-- The planning evaluation of a record on its stored measurement (R54, R55). -/
def State.evaluateMeasured (s : State) (n : Nat) : State :=
  match s.assessment n with
  | none => s
  | some a => (s.writeAssessment n a).evaluate n a.handed

/-- The planning evaluation after an overcut: the current diameter as own need, no assessment (R42, R55, R129). -/
def State.evaluateOvercut (s : State) (n current : Nat) : State :=
  (s.modRecord n (fun r => { r with ownNeed := some current })).evaluate n
    { ownNeed := current, exempt := s.exempt n, loss := 0 }

end Sys2Proof.Machine
end

