-- ==== Sys2Proof/Machine/Gauge.lean ====
section
/-! DEFINITION. Gauge Intake (chapter 5). -/
namespace Sys2Proof.Machine

/-- One more, stopping at 255 (R100). -/
def bump (n : Nat) : Nat := if n < Config.gaugeCountMax then n + 1 else n

/-- One more refused report (R100). -/
def State.countRefused (s : State) : State := { s with gaugeCounts := { s.gaugeCounts with refused := bump s.gaugeCounts.refused } }

/-- One more accepted report (R100). -/
def State.countAccepted (s : State) : State :=
  { s with gaugeCounts := { s.gaugeCounts with accepted := bump s.gaugeCounts.accepted } }

/-- A refused report: counted, nothing else written (R100, R101). -/
def gaugeRefusal (s : State) (r : Reason) (body : List Byte) : Taken := refuseWith s.countRefused r body

/-- A report refused for its serial also flags SERIAL CONFLICT (R101). -/
def serialRefusal (s : State) (r : Reason) (body : List Byte) : Taken := refuseWith (s.countRefused.flag .serialConflict) r body

/-- The record's serial differs from the one carried (R101, R104). -/
def serialMismatch (carried held : Option Nat) : Option Nat :=
  match carried, held with
  | some c, some h => if c == h then none else some h
  | none, _ => none
  | some _, none => none

/-- The map pairs the serial carried with another ordinal (R101, R104). -/
def serialDuplicate (map : List (Nat × Nat)) (carried : Option Nat) (n : Nat) : Option Nat :=
  match carried with
  | none => none
  | some c =>
    match serialOrdinal map c with
    | none => none
    | some m => if m == n then none else some m

/-- The first serial of a record is stored and mapped (R6, R26, R105). -/
def State.storeSerial (s : State) (n : Nat) (carried : Option Nat) : State :=
  match carried, (s.record n).serial with
  | some c, none =>
    { s.modRecord n (fun r => { r with serial := some c }) with serialMap := serialInsert c n s.serialMap }
  | none, _ => s
  | some _, some _ => s

/-- The writes of an accepted report before its evaluation (R105). -/
def State.storeReport (s : State) (n : Nat) (m : Measurement) (serial : Option Nat) : State :=
  ((s.storeSerial n serial).modRecord n (fun r =>
    { r with measured := some { block := m, source := .gauge }, doubtful := false })).countAccepted

/-- The DONE answer to a report (R106). -/
def State.gaugeAnswer (s : State) (n : Nat) : List Byte :=
  let r := s.record n
  be 1 n ++ be 1 r.stage.code ++ optional 3 r.target ++ be 3 (r.ownNeed.getD 0) ++ flagByte r.unfit
    ++ optional 3 (r.blocked.map (·.heldBack))

/-- GAUGE REPORT of an ordinal, a measurement and perhaps a serial (R101, R105). Every refusal is counted, NOT LOADED among them: R101 states
it, as R4 lets a request's own rule do, and R100 says so of any check; R88's "no trace" is read as of all but that count (log 31). -/
def gaugeIntake (n : Nat) (m : Measurement) (serial : Option Nat) (s : State) : Taken :=
  if !s.isLoaded then gaugeRefusal s .notLoaded []
  else if s.alignment.gauge != some n then gaugeRefusal s .notAligned (ordinalByte s.alignment.gauge)
  else if (s.record n).stage == .condemned then gaugeRefusal s .wrongStage []
  else if !m.inRange || serial == some 0 then gaugeRefusal s .outOfRange []
  else
    match serialMismatch serial (s.record n).serial with
    | some held => serialRefusal s .serialMismatch (be 4 held)
    | none =>
      match serialDuplicate s.serialMap serial n with
      | some other => serialRefusal s .duplicateSerial (be 1 other)
      | none =>
        let t := (s.storeReport n m serial).evaluateMeasured n
        done t (t.gaugeAnswer n)

/-- GAUGE REPORT from its payload: ordinal, measurement block, serial when present (R217). -/
def takeGaugeReport (p : List Byte) (s : State) : Taken := gaugeIntake (field p 0 1) (measurementAt p 1) (reportSerial p) s

/-- GAUGE_REPORT (R101). -/
def execGaugeReport (s : State) : Result := serve .gauge .gaugeReport takeGaugeReport s

end Sys2Proof.Machine
end

