-- ==== Sys2Proof/Machine/Stations.lean ====
section
/-! DEFINITION. The Station Controllers (chapter 6): the requests of a station, the host's pass commands, READ STATION. -/
namespace Sys2Proof.Machine

/-- The contour cursor closed (R118). -/
def State.closeCursor (s : State) (st : StationId) : State := s.modStation st (fun c => { c with cursor := none })

/-- A station's request: every one but CONTOUR NEXT closes the cursor at the start of its step (R118). -/
def serveStation (st : StationId) (k : RequestKind) (owner : StationId → List Byte → State → Taken) (s : State) : Result :=
  serve (stationLink st) k (fun p s => owner st p (s.closeCursor st)) s

/-- The move state is PENDING or GRANTED (R153). -/
def State.moving (s : State) : Bool := s.moveState != .still

/-! ## CLAIM -/

/-- The effect of an accepted CLAIM (R120). -/
def State.claim (s : State) (st : StationId) (n : Nat) : State :=
  let s := s.modStation st (fun c => { c with held := some n })
  (s.modRecord n (fun r => { r with hold := .clamped, holder := some st, verified := false })).unlist n

/-- The DONE answer to CLAIM (R120). -/
def State.claimAnswer (s : State) (n : Nat) : List Byte :=
  let r := s.record n
  be 1 n ++ be 3 (r.target.getD 0) ++ be 3 (r.current.getD 0) ++ be 1 r.passesDone ++ flagByte r.doubtful

/-- CLAIM (R119, R120). -/
def takeClaim (st : StationId) (p : List Byte) (s : State) : Taken :=
  let n := field p 0 1
  if s.moving then refuse s .moving
  else if !s.isLoaded then refuse s .notLoaded
  else if s.alignedAt st != some n then refuseWith s .notAligned (ordinalByte (s.alignedAt st))
  else
    match (s.station st).held with
    | some h => refuseWith s .alreadyHolding (be 1 h)
    | none =>
      if (s.record n).stage != .planned then refuseWith s .wrongStage (be 1 (s.record n).stage.code)
      else if s.exempt n then refuse s .exempt
      else done (s.claim st n) (s.claimAnswer n)

/-- CLAIM (R119). -/
def execClaim (st : StationId) (s : State) : Result := serveStation st .claim takeClaim s

/-! ## GRANT PASS -/

/-- The BELOW TARGET check (R122): current diameter minus twice the depth lies below target minus the undercut tolerance. -/
def Record.belowTarget (r : Record) (v : LimitValues) (depth : Nat) : Bool :=
  match r.current, r.target with
  | some c, some t => c + v.undercutTol < t + 2 * depth
  | none, _ => false
  | some _, none => false

/-- GRANT PASS (R122, R123). -/
def takeGrantPass (st : StationId) (p : List Byte) (s : State) : Taken :=
  let depth := field p 0 2
  match (s.station st).held with
  | none => refuse s .notHolding
  | some n =>
    let r := s.record n
    if r.stage != .planned then refuse s .wrongStage
    else if r.doubtful then refuse s .doubtful
    else if (s.station st).passInFlight then refuse s .passInFlight
    else if s.moving then refuse s .moving
    else if s.exempt n then refuse s .exempt
    else if r.passesDone == s.limits.maxPasses then refuse s .passLimit
    else if depth < 1 || s.limits.maxPassDepth < depth then refuse s .depthTooLarge
    else if r.belowTarget s.limits depth then refuse s .belowTarget
    else done (s.modStation st (fun c => { c with grant := some depth })) (be 2 depth ++ be 3 (r.current.getD 0 - 2 * depth))

/-- GRANT_PASS (R122). -/
def execGrantPass (st : StationId) (s : State) : Result := serveStation st .grantPass takeGrantPass s

/-! ## START PASS -/

/-- The effect of an accepted START PASS (R124, R131). -/
def State.startPass (s : State) (st : StationId) (n : Nat) : State :=
  (s.modStation st (fun c => { c with grant := none, passInFlight := true, watch := s.limits.watchReload })).modRecord n
    (fun r => { r with hold := .cutting })

/-- START PASS (R124). -/
def takeStartPass (st : StationId) (_p : List Byte) (s : State) : Taken :=
  match (s.station st).held with
  | none => refuse s .notHolding
  | some n =>
    match (s.station st).grant with
    | none => refuse s .noGrant
    | some depth =>
      if s.moving then refuse s .moving else done (s.startPass st n) (be 2 depth ++ be 2 s.limits.watchReload)

/-- START_PASS (R124). -/
def execStartPass (st : StationId) (s : State) : Result := serveStation st .startPass takeStartPass s

/-! ## PASS DONE -/

/-- The two diameters replaced, the other eight values kept, the source this station (R7, R126). -/
def Measured.withDiameters (m : Measured) (st : StationId) (left right : Nat) : Measured :=
  { block := { left := { m.block.left with diameter := left }, right := { m.block.right with diameter := right } },
    source := stationSource st }

/-- The writes of an accepted PASS DONE before its diameter tests (R126). -/
def State.endPass (s : State) (st : StationId) (n left right : Nat) : State :=
  (s.modStation st (fun c => { c with passInFlight := false, suspended := false })).modRecord n (fun r =>
    { r with hold := .clamped, passesDone := r.passesDone + 1, verified := false,
             measured := r.measured.map (fun m => m.withDiameters st left right) })

/-- The current diameter lies below the condemn diameter of the record's class (R127). -/
def belowCondemn (v : LimitValues) (r : Record) (current : Nat) : Bool := current < condemnDiameter v r.cls

/-- The current diameter lies below the target minus the undercut tolerance (R127). -/
def belowUndercut (v : LimitValues) (r : Record) (current : Nat) : Bool :=
  match r.target with
  | none => false
  | some t => current + v.undercutTol < t

/-- The diameter tests (R127) with their outcomes (R128, R129). -/
def State.diameterTests (s : State) (n current : Nat) : State :=
  let r := s.record n
  if belowCondemn s.limits r current then (s.condemn n .overcut).flag .overcut
  else if belowUndercut s.limits r current then (s.flag .overcut).evaluateOvercut n current
  else s

/-- The DONE answer to PASS DONE (R130). -/
def State.passDoneAnswer (s : State) (n current : Nat) (overcut : Bool) : List Byte :=
  let r := s.record n
  be 1 n ++ be 1 r.passesDone ++ be 1 (s.limits.maxPasses - r.passesDone) ++ be 3 current ++ be 3 (r.target.getD 0)
    ++ be 1 r.stage.code ++ flagByte overcut
    ++ flagByte (r.stage == .planned && r.target.any (fun t => t + s.limits.finishTol < current))

/-- PASS DONE (R125 to R130). -/
def takePassDone (st : StationId) (p : List Byte) (s : State) : Taken :=
  let left := field p 0 3
  let right := field p 3 3
  match (s.station st).held with
  | none => refuse s .notHolding
  | some n =>
    if !(s.station st).passInFlight then refuse s .noPass
    else if !diameterInRange left || !diameterInRange right then refuse s .outOfRange
    else
      let u := s.endPass st n left right
      let current := min left right
      let t := u.diameterTests n current
      done t (t.passDoneAnswer n current
        (belowCondemn u.limits (u.record n) current || belowUndercut u.limits (u.record n) current))

/-- PASS_DONE (R126). -/
def execPassDone (st : StationId) (s : State) : Result := serveStation st .passDone takePassDone s

/-! ## VERIFY -/

/-- The writes of an accepted VERIFY before its evaluation (R140). -/
def State.storeVerify (s : State) (st : StationId) (n : Nat) (m : Measurement) : State :=
  (s.modStation st (fun c => { c with grant := none })).modRecord n (fun r =>
    { r with measured := some { block := m, source := stationSource st }, doubtful := false })

/-- The verified mark decided on the record as the evaluation left it (R44, R140). -/
def State.decideVerified (s : State) (n : Nat) (verdict : Verdict) (m : Measurement) : State :=
  s.modRecord n (fun r => { r with verified := verificationTest s.limits r verdict m })

/-- VERIFY from the assessment of the block just stored: evaluation, then the verified mark (R30, R140). -/
def State.verifyRecord (s : State) (n : Nat) (m : Measurement) : State :=
  match s.assessment n with
  | none => s.decideVerified n .rejected m
  | some a => ((s.writeAssessment n a).evaluate n a.handed).decideVerified n a.verdict m

/-- The DONE answer to VERIFY (R140). -/
def State.verifyAnswer (s : State) (n : Nat) : List Byte :=
  let r := s.record n
  be 1 r.stage.code ++ be 3 (r.target.getD 0) ++ be 3 (r.ownNeed.getD 0) ++ flagByte r.verified
    ++ optional 3 (r.blocked.map (·.heldBack))

/-- VERIFY (R139, R140). -/
def takeVerify (st : StationId) (p : List Byte) (s : State) : Taken :=
  let m := measurementAt p 0
  match (s.station st).held with
  | none => refuse s .notHolding
  | some n =>
    if (s.station st).passInFlight then refuse s .passInFlight
    else if !m.inRange then refuse s .outOfRange
    else
      let t := (s.storeVerify st n m).verifyRecord n m
      done t (t.verifyAnswer n)

/-- VERIFY (R140). -/
def execVerify (st : StationId) (s : State) : Result := serveStation st .verify takeVerify s

/-! ## RELEASE -/

/-- A record released (R142): FREE, its holder absent, FINISHED if PLANNED and verified, verified no. -/
def Record.released (r : Record) : Record :=
  let finished := r.stage == .planned && r.verified
  { r with hold := .free, holder := none, verified := false,
           stage := if finished then .finished else r.stage,
           blocked := if finished then none else r.blocked }

/-- The effect of an accepted RELEASE before it is reported to the Motion Interlock (R142). -/
def State.releaseRecord (s : State) (st : StationId) (n : Nat) : State :=
  let u := (s.modStation st (fun c => { c with held := none, grant := none })).modRecord n Record.released
  if (u.record n).stage == .finished then u.unlist n else u

/-- RELEASE (R142, R143). -/
def takeRelease (st : StationId) (_p : List Byte) (s : State) : Taken :=
  match (s.station st).held with
  | none => refuse s .notHolding
  | some n =>
    if (s.station st).passInFlight then refuse s .passInFlight
    else
      let t := (s.releaseRecord st n).holdFreed
      done t (be 1 n ++ be 1 (t.record n).stage.code)

/-- RELEASE (R142). -/
def execRelease (st : StationId) (s : State) : Result := serveStation st .release takeRelease s

/-! ## The contour -/

/-- Up to 8 points from an index onwards (R144). -/
def contourFrom (i : ProfileImage) (start : Nat) : List Point := ((imagePoints i).drop start).take Config.contourChunk

/-- The cursor after an answer that returned the points from `start`: open where points remain (R144, R145). -/
def cursorAfter (profile : Nat) (i : ProfileImage) (start : Nat) : Option Cursor :=
  if start + Config.contourChunk < i.header.pointCount then some { profile := profile, next := start + Config.contourChunk }
  else none

/-- The DONE answer to READ CONTOUR and CONTOUR NEXT (R144). That it shows that no points remain by start index plus count of points being
the point count, with no item of its own, is the model's choice (log 33). -/
def contourAnswer (profile : Nat) (i : ProfileImage) (start : Nat) : List Byte :=
  be 1 profile ++ be 1 i.header.pointCount ++ be 1 start ++ be 1 (contourFrom i start).length
    ++ (contourFrom i start).flatMap pointBytes

/-- READ CONTOUR (R144). A held record's profile is VALID (R32); without one there is no point and every index is out of range. -/
def takeReadContour (st : StationId) (p : List Byte) (s : State) : Taken :=
  let start := field p 0 1
  match (s.station st).held with
  | none => refuse s .notHolding
  | some n =>
    let profile := (s.record n).profile
    match s.validProfile profile with
    | none => refuse s .outOfRange
    | some i =>
      if i.header.pointCount ≤ start then refuse s .outOfRange
      else
        done (s.modStation st (fun c => { c with cursor := cursorAfter profile i start })) (contourAnswer profile i start)

/-- READ_CONTOUR (R144). -/
def execReadContour (st : StationId) (s : State) : Result := serveStation st .readContour takeReadContour s

/-- CONTOUR NEXT (R145): refused NO CURSOR without an open cursor, outside a loaded visit as in one. R82 has the other station requests
refused NOT HOLDING outside a loaded visit; by R4 the checks of the request's own rule stand (log 30). The profile of an open cursor is
VALID (R32); without one there is no point to continue with. -/
def takeContourNext (st : StationId) (_p : List Byte) (s : State) : Taken :=
  match (s.station st).cursor with
  | none => refuse s .noCursor
  | some k =>
    match s.validProfile k.profile with
    | none => refuse (s.closeCursor st) .noCursor
    | some i =>
      done (s.modStation st (fun c => { c with cursor := cursorAfter k.profile i k.next })) (contourAnswer k.profile i k.next)

/-- CONTOUR_NEXT (R145). -/
def execContourNext (st : StationId) (s : State) : Result := serve (stationLink st) .contourNext (takeContourNext st) s

/-! ## Host commands -/

/-- The held ordinal that an order carries (R138). -/
def State.heldOrdinal (s : State) (st : StationId) : Nat := ((s.station st).held).getD 0

/-- The hold of the record a station holds is written (R20). -/
def State.setHold (s : State) (st : StationId) (h : Hold) : State :=
  match (s.station st).held with
  | none => s
  | some n => s.modRecord n (fun r => { r with hold := h })

/-- The effect of an accepted HALT PASS (R135). -/
def State.haltPass (s : State) (st : StationId) : State :=
  ((s.modStation st (fun c => { c with suspended := true })).setHold st .suspended).sendOrder st .halt (s.heldOrdinal st)

/-- HALT PASS (R135). -/
def takeHaltPass (code : Nat) (s : State) : Taken :=
  match stationOf code with
  | none => refuse s .outOfRange
  | some st =>
    if !(s.station st).enabled then refuse s .disabled
    else if !(s.station st).passInFlight || (s.station st).suspended then refuse s .noPass
    else done (s.haltPass st) []

/-- HALT_PASS (R135). -/
def execHaltPass (code : Nat) (s : State) : Result := portCommand (.haltPass code) (takeHaltPass code) s

/-- The effect of an accepted RESUME PASS (R136). -/
def State.resumePass (s : State) (st : StationId) : State :=
  ((s.modStation st (fun c => { c with suspended := false })).setHold st .cutting).sendOrder st .resume (s.heldOrdinal st)

/-- RESUME PASS (R136). -/
def takeResumePass (code : Nat) (s : State) : Taken :=
  match stationOf code with
  | none => refuse s .outOfRange
  | some st =>
    if !(s.station st).enabled then refuse s .disabled
    else if !((s.station st).passInFlight && (s.station st).suspended) then refuse s .noPass
    else done (s.resumePass st) []

/-- RESUME_PASS (R136). -/
def execResumePass (code : Nat) (s : State) : Result := portCommand (.resumePass code) (takeResumePass code) s

/-- READ STATION (R149). -/
def takeReadStation (code : Nat) (s : State) : Taken :=
  match stationOf code with
  | none => refuse s .outOfRange
  | some st => done s (s.stationBytes st)

/-- READ_STATION (R149). -/
def execReadStation (code : Nat) (s : State) : Result := portCommand (.readStation code) (takeReadStation code) s

end Sys2Proof.Machine
end

