-- ==== Sys2Proof/Machine/Links.lean ====
section
/-! DEFINITION. The Cell Link Interface (chapter 8): arriving frames, transmission, HELLO, RESET LINK. -/
namespace Sys2Proof.Machine

/-! ## Arriving frames -/

/-- What becomes of an arriving frame (R170). -/
inductive Disposition where
  /-- Row 1: discarded unanswered, fault MALFORMED. -/
  | malformed
  /-- Row 2. -/
  | disabled
  /-- Row 3. -/
  | starting
  /-- Row 4, fault UNKNOWN. -/
  | unknown
  /-- Row 5. -/
  | helloTaken
  /-- Row 6. -/
  | linkReset
  /-- Row 7, fault INBOX FULL. -/
  | inboxFull
  /-- Row 8. -/
  | admitted (k : RequestKind)
  deriving DecidableEq, Repr

/-- The request kind of a frame when the link's role admits it (R167). -/
def admittedKind (l : LinkId) (code : Byte) : Option RequestKind :=
  match requestKindOf code with
  | none => none
  | some k => if l.admits k then some k else none

/-- The rows of R170 from row 5 on, for a frame of an admitted kind and a fitting length. -/
def LinkContext.dispose (c : LinkContext) (k : RequestKind) : Disposition :=
  if c.state != .up then (if k == .hello then .helloTaken else .linkReset)
  else if Config.inboxDepth ≤ c.inbox.length then .inboxFull
  else .admitted k

/-- The disposition of a frame that has arrived (R170). The length part of row 1 applies only after rows 2 to 4 pass the kind. -/
def State.disposition (s : State) (l : LinkId) (f : CellFrame) : Disposition :=
  if !f.checkAgrees then .malformed
  else if (s.link l).state == .disabled then .disabled
  else if s.phase == .starting then .starting
  else
    match admittedKind l f.kind with
    | none => .unknown
    | some k => if !k.fits f.payload.length then .malformed else (s.link l).dispose k

/-- A fault recorded on a link (R172): its last fault cause is set and LINK FAULT flagged. -/
def State.recordFault (s : State) (l : LinkId) (cause : FaultCause) : State :=
  (s.modLink l (fun c => { c with fault := cause })).flag .linkFault

/-- A malformed frame is discarded: a fault, but neither recorded on a DISABLED link nor while STARTING (R170). -/
def State.discardMalformed (s : State) (l : LinkId) : State :=
  if (s.link l).state == .disabled || s.phase == .starting then s else s.recordFault l .malformed

/-- An interface answer to a frame: its kind code, its tag's low four bits and a reply (R171, R216). -/
def State.interfaceAnswer (s : State) (l : LinkId) (f : CellFrame) (r : Reply) : State :=
  s.modLink l (fun c => c.interfaceAnswer f.kind (f.tag.setWidth 4) r)

/-- The DONE answer to HELLO: the link number and the role of the port (R176, R216). -/
def helloDone (l : LinkId) : Reply := { reason := .done, body := be 1 (linkNumber l) ++ be 1 (linkNumber l) }

/-- A HELLO's role code equals the port's role (R176). -/
def roleMatches (l : LinkId) (p : List Byte) : Bool := field p 0 1 == linkNumber l

/-- A HELLO on a DOWN or RESETTING link, taken at its arrival (R176). -/
def State.helloAtArrival (s : State) (l : LinkId) (f : CellFrame) : State :=
  if roleMatches l f.payload then
    ((s.modLink l (fun c => { c with state := .up, fault := .none })).flag .linkUp).interfaceAnswer l f (helloDone l)
  else s.interfaceAnswer l f (.bare .wrongRole)

/-- A frame admitted to the inbox as its newest (R170 row 8). A tag above 15 is taken as its low four bits (R216). -/
def LinkContext.receive (c : LinkContext) (k : RequestKind) (f : CellFrame) : LinkContext :=
  { c with inbox := c.inbox ++ [{ kind := k, tag := f.tag.setWidth 4, payload := f.payload, answered := false }] }

/-- What a disposition does (R170 to R172). -/
def State.dispose (s : State) (l : LinkId) (f : CellFrame) : Disposition → State
  | .malformed => s.discardMalformed l
  | .disabled => s.interfaceAnswer l f (.bare .disabled)
  | .starting => s.interfaceAnswer l f (.bare .starting)
  | .unknown => (s.recordFault l .unknown).interfaceAnswer l f (.bare .unknown)
  | .helloTaken => s.helloAtArrival l f
  | .linkReset => s.interfaceAnswer l f (.bare .linkReset)
  | .inboxFull => (s.recordFault l .inboxFull).interfaceAnswer l f (.bare .inboxFull)
  | .admitted k => s.modLink l (fun c => c.receive k f)

/-- CELL_FRAME_ARRIVAL (R170). While RESET is asserted the receivers are idle and the frame is lost (R166). -/
def execCellFrameArrival (l : LinkId) (f : CellFrame) (s : State) : Result :=
  match s.phase with
  | .resetAsserted => .next s
  | .starting => .next (s.dispose l f (s.disposition l f))
  | .running => .next (s.dispose l f (s.disposition l f))

/-- MALFORMED_FRAME_DISCARDED (R168, R172): a frame in progress given up for its length byte or for a late byte. -/
def execMalformedFrameDiscarded (l : LinkId) (_why : DiscardCause) (s : State) : Result :=
  match s.phase with
  | .resetAsserted => .next s
  | .starting => .next (s.discardMalformed l)
  | .running => .next (s.discardMalformed l)

/-! ## Transmission -/

/-- The transmitter begins to send the oldest waiting frame (R174). With none, or one in transmission, there is no start. -/
def LinkContext.startTransmission (c : LinkContext) : LinkContext :=
  if c.outgoing.isEmpty then c else { c with transmitting := true }

/-- TRANSMISSION_START (R174). -/
def execTransmissionStart (l : LinkId) (s : State) : Result := .next (s.modLink l LinkContext.startTransmission)

/-- The frame in transmission leaves the outgoing list; the inbox frame it answers leaves its place (R174). -/
def LinkContext.endTransmission (c : LinkContext) : LinkContext :=
  match c.transmitting, c.outgoing with
  | true, f :: rest =>
    { c with outgoing := rest, transmitting := false,
             inbox := if f.origin == .inboxAnswer then removeAnswered c.inbox else c.inbox }
  | true, [] => c
  | false, _ => c

/-- TRANSMISSION_END (R174). With no transmission in progress there is no end, and nothing changes. -/
def execTransmissionEnd (l : LinkId) (s : State) : Result := .next (s.modLink l LinkContext.endTransmission)

/-! ## HELLO on an UP link -/

/-- A HELLO taken from the inbox of an UP link (R176): DONE or WRONG ROLE, nothing else changes. -/
def takeHello (l : LinkId) (p : List Byte) (s : State) : Taken :=
  if roleMatches l p then (s, helloDone l) else refuse s .wrongRole

/-- HELLO (R176). -/
def execHello (l : LinkId) (s : State) : Result := serve l .hello (takeHello l) s

/-! ## RESET LINK -/

/-- The untaken frames of an inbox, oldest first (R173). -/
def LinkContext.untaken (c : LinkContext) : List InboxFrame := c.inbox.filter (fun f => !f.answered)

/-- Every untaken frame answered LINK RESET in arrival order; the link RESETTING; its fault cause as it stands (R179). -/
def LinkContext.flush (c : LinkContext) : LinkContext :=
  { c with state := .resetting, inbox := c.inbox.map (fun f => { f with answered := true }),
           outgoing := c.outgoing ++ c.untaken.map (fun f => answerTo f (.bare .linkReset)) }

/-- A record freed by a station link reset (R23): doubtful when a pass was in flight or suspended. -/
def Record.freedByReset (r : Record) : Record :=
  { r with hold := .free, holder := none, verified := false,
           doubtful := r.doubtful || r.hold == Hold.cutting || r.hold == Hold.suspended }

/-- A station context after a link reset (R146): emptied, `enabled` unchanged. -/
def StationContext.linkReset (c : StationContext) : StationContext := { StationContext.afterReset with enabled := c.enabled }

/-- The effects of a station link reset (R146): the held record freed, the context emptied, a freed hold reported (R154). R150 says that no
RESET LINK changes the move state or MOVE GRANT; the model follows R154, R156 and R180, by which the hold it frees may complete a pending
move (log 32). -/
def State.resetStation (s : State) (st : StationId) : State :=
  match (s.station st).held with
  | none => s.modStation st StationContext.linkReset
  | some n => ((s.modStation st StationContext.linkReset).modRecord n Record.freedByReset).holdFreed

/-- The alignment table after a mover link reset: the fields of stations that hold a record are kept (R163). -/
def State.keptAlignment (s : State) : Alignment :=
  { gauge := none, stationA := if s.stationA.held.isSome then s.alignment.stationA else none,
    stationB := if s.stationB.held.isSome then s.alignment.stationB else none }

/-- The effects of a mover link reset (R163). -/
def State.resetMover (s : State) : State := { s with alignment := s.keptAlignment, gaugeCounts := { accepted := 0, refused := 0 } }

/-- The effects of a link reset on its owning block (R180). -/
def State.resetOwner (s : State) : LinkId → State
  | .gauge => s
  | .stationA => s.resetStation .a
  | .stationB => s.resetStation .b
  | .mover => s.resetMover

/-- RESET LINK (R179). -/
def takeResetLink (n : Nat) (s : State) : Taken :=
  match linkOf n with
  | none => refuse s .outOfRange
  | some l =>
    if (s.link l).state == .disabled then refuse s .disabled
    else done ((s.modLink l LinkContext.flush).resetOwner l) (be 1 (s.link l).untaken.length)

/-- RESET_LINK (R179). -/
def execResetLink (n : Nat) (s : State) : Result := portCommand (.resetLink n) (takeResetLink n) s

end Sys2Proof.Machine
end

