-- ==== Sys2Proof/Machine/Motion.lean ====
section
/-! DEFINITION. The Motion Interlock (chapter 7): the edges of MOVE REQUEST, ALIGNED, READ ALIGNMENT. -/
namespace Sys2Proof.Machine

/-- What a rise does in STILL (R152): PENDING where a record is held, else GRANTED with the table emptied. -/
def State.takeRise (s : State) : State := if s.anyHeld then { s with moveState := .pending } else s.grantMove

/-- The edges of MOVE REQUEST are taken only once start-up has ended (R158). -/
def State.takesEdges (s : State) : Bool := s.phase == .running

/-- MOVE_REQUEST_RISE (R152, R158). A rise of a line already asserted cannot come, and changes nothing. -/
def execMoveRequestRise (s : State) : Result :=
  if s.moveRequest then .next s
  else
    let u := { s with moveRequest := true }
    if s.takesEdges && s.moveState == .still then .next (State.flagStarts s u.takeRise) else .next u

/-- MOVE_REQUEST_FALL (R155, R158). A fall of a line already low cannot come, and changes nothing. -/
def execMoveRequestFall (s : State) : Result :=
  if !s.moveRequest then .next s
  else
    let u := { s with moveRequest := false }
    if s.takesEdges then .next { u with moveState := .still } else .next u

/-- Two fields that are present name the same ordinal (R160). -/
def hasRepeat : List Nat → Bool
  | [] => false
  | n :: rest => rest.contains n || hasRepeat rest

/-- The fields of an ALIGNED report (R217); in SINGLE mode the station B field counts as absent (R160, R161). -/
def State.reportedAlignment (s : State) (p : List Byte) : Alignment :=
  { gauge := ordinalOrAbsent (field p 0 1), stationA := ordinalOrAbsent (field p 1 1),
    stationB := if s.stationMode == .single then none else ordinalOrAbsent (field p 2 1) }

/-- The fields of a table that are present. -/
def Alignment.present (a : Alignment) : List Nat := a.gauge.toList ++ a.stationA.toList ++ a.stationB.toList

/-- A report's fields lie in 1..record count and are distinct (R160). -/
def State.alignmentInRange (s : State) (a : Alignment) : Bool :=
  a.present.all (fun n => 1 ≤ n && n ≤ s.recordCount) && !hasRepeat a.present

/-- ALIGNED (R160, R161). -/
def takeAligned (p : List Byte) (s : State) : Taken :=
  let a := s.reportedAlignment p
  if s.moving then refuseWith s .moving (be 1 s.moveState.code)
  else if !s.isLoaded then refuse s .notLoaded
  else if s.anyHeld then refuseWith s .holdsPresent s.heldBytes
  else if !s.alignmentInRange a then refuse s .outOfRange
  else done { s with alignment := a, gaugeCounts := { accepted := 0, refused := 0 } } (alignmentBytes a)

/-- ALIGNED (R160). -/
def execAligned (s : State) : Result := serve .mover .aligned takeAligned s

/-- READ ALIGNMENT (R164). -/
def takeReadAlignment (s : State) : Taken := done s s.interlockBytes

/-- READ_ALIGNMENT (R164). -/
def execReadAlignment (s : State) : Result := portCommand .readAlignment takeReadAlignment s

end Sys2Proof.Machine
end

