-- ==== Sys2Proof/Machine/Table.lean ====
section
/-! DEFINITION. The lookups of the Wheelset Table (section 1.7). All three leave the table unchanged. -/
namespace Sys2Proof.Machine

/-- An ordinal lies in 1..64 (R1). -/
def ordinalInRange (n : Nat) : Bool := 1 ≤ n && n ≤ 64

/-- LOOKUP ORDINAL (R28). -/
def takeLookupOrdinal (n : Nat) (s : State) : Taken :=
  if !ordinalInRange n then refuse s .badOrdinal else done s (s.snapshot n)

/-- LOOKUP_ORDINAL (R28). -/
def execLookupOrdinal (n : Nat) (s : State) : Result := portCommand (.lookupOrdinal n) (takeLookupOrdinal n) s

/-- LOOKUP SERIAL (R27). -/
def takeLookupSerial (serial : Nat) (s : State) : Taken :=
  if serial == 0 then refuse s .outOfRange
  else
    match serialOrdinal s.serialMap serial with
    | none => refuse s .notFound
    | some n => done s (be 1 n ++ s.snapshot n)

/-- LOOKUP_SERIAL (R27). -/
def execLookupSerial (serial : Nat) (s : State) : Result := portCommand (.lookupSerial serial) (takeLookupSerial serial) s

/-- The ordinals of the records in a stage, ascending (R29). -/
def State.inStage (s : State) (g : Stage) : List Nat := ordinals.filter (fun n => (s.record n).stage == g)

/-- LIST STAGE (R29). -/
def takeListStage (code : Nat) (s : State) : Taken :=
  match stageOf code with
  | none => refuse s .outOfRange
  | some g => done s (counted (s.inStage g))

/-- LIST_STAGE (R29). -/
def execListStage (code : Nat) (s : State) : Result := portCommand (.listStage code) (takeListStage code) s

end Sys2Proof.Machine
end

