-- ==== Sys2Proof/Machine/Planning.lean ====
section
/-! DEFINITION. The commands the Equalisation Planner takes: READ GROUP, READ REOPEN LIST, REPLAN and the two rulings (chapter 3). -/
namespace Sys2Proof.Machine

/-- The largest index of a group kind (R48). -/
def maxGroupIndex : GroupKind → Nat
  | .bogie => 32
  | .car => 16

/-- The groups of a kind (R48). -/
def State.groups (s : State) : GroupKind → List Group
  | .bogie => s.bogieGroups
  | .car => s.carGroups

/-- READ GROUP (R53). -/
def takeReadGroup (kind index : Nat) (s : State) : Taken :=
  match groupKindOf kind with
  | none => refuse s .outOfRange
  | some k =>
    if index < 1 || maxGroupIndex k < index then refuse s .outOfRange
    else
      match (s.groups k).find? (fun g => g.index == index) with
      | none => refuse s .notFound
      | some g => done s (s.groupBytes g)

/-- READ_GROUP (R53). -/
def execReadGroup (kind index : Nat) (s : State) : Result := portCommand (.readGroup kind index) (takeReadGroup kind index) s

/-- READ REOPEN LIST (R70). -/
def takeReadReopenList (s : State) : Taken := done s (counted s.reopenList)

/-- READ_REOPEN_LIST (R70). -/
def execReadReopenList (s : State) : Result := portCommand .readReopenList takeReadReopenList s

/-- PLANNED, FINISHED or BLOCKED (R74). -/
def Stage.rulable : Stage → Bool
  | .planned => true
  | .finished => true
  | .blocked => true
  | .vacant => false
  | .announced => false
  | .condemned => false

/-- The checks of R74, in its order, with the stage a command admits; an accepted command answers with the snapshot its step leaves. On a
held record of a stage the command does not admit the answer is WRONG STAGE, the first of R74's checks that fails (R4), where R79 and R121
say HELD ELSEWHERE of any held record: the model's reading (log 34). -/
def ruling (admits : Stage → Bool) (effect : State → State) (n : Nat) (s : State) : Taken :=
  if !ordinalInRange n then refuse s .badOrdinal
  else if !admits (s.record n).stage then refuse s .wrongStage
  else if (s.record n).hold != .free then refuse s .heldElsewhere
  else done (effect s) ((effect s).snapshot n)

/-- REPLAN (R74, R78). -/
def takeReplan (n : Nat) (s : State) : Taken := ruling Stage.rulable (fun s => s.evaluateMeasured n) n s

/-- REPLAN (R78). -/
def execReplan (n : Nat) (s : State) : Result := portCommand (.replan n) (takeReplan n) s

/-- The target ACCEPT DEVIATION puts in place: the held-back target of a BLOCKED record (R75). -/
def Record.deviationTarget (r : Record) : Option Nat :=
  match r.blocked with
  | some b => some b.heldBack
  | none => r.target

/-- A record whose deviation is accepted (R75): its held-back target in place, waived, FINISHED when its own need equals its current
diameter and this lies within the new target and the finish tolerance, PLANNED otherwise. -/
def Record.deviated (v : LimitValues) (r : Record) : Record :=
  let r' := { r with target := r.deviationTarget, waived := true, blocked := none }
  let within :=
    match r.current, r'.target with
    | some c, some t => r.ownNeed == some c && c ≤ t + v.finishTol
    | none, _ => false
    | some _, none => false
  { r' with stage := if within then .finished else .planned }

/-- The effect of an accepted ACCEPT DEVIATION (R75). -/
def State.acceptDeviation (s : State) (n : Nat) : State :=
  let u := s.modRecord n (fun r => r.deviated s.limits)
  let u := if (u.record n).stage == .finished then u.unlist n else u
  u.refloor [n]

/-- RULE ACCEPT DEVIATION (R74, R75). -/
def takeRuleAcceptDeviation (n : Nat) (s : State) : Taken := ruling (· == .blocked) (fun s => s.acceptDeviation n) n s

/-- RULE_ACCEPT_DEVIATION (R75). -/
def execRuleAcceptDeviation (n : Nat) (s : State) : Result :=
  portCommand (.ruleAcceptDeviation n) (takeRuleAcceptDeviation n) s

/-- RULE CONDEMN (R74, R77). -/
def takeRuleCondemn (n : Nat) (s : State) : Taken := ruling Stage.rulable (fun s => s.condemn n .ruling) n s

/-- RULE_CONDEMN (R77). -/
def execRuleCondemn (n : Nat) (s : State) : Result := portCommand (.ruleCondemn n) (takeRuleCondemn n) s

end Sys2Proof.Machine
end

