-- ==== Sys2Proof/Machine/Store.lean ====
section
/-! DEFINITION. The Profile Store (chapter 9): judging pages, the catalogue commands, the store write, READ PAGE. -/
namespace Sys2Proof.Machine

/-! ## The value tests -/

/-- A value lies in a range, both ends included. -/
def within (lo hi n : Nat) : Bool := lo ≤ n && n ≤ hi

/-- The lowest item code of a list of tests that fails (R191). -/
def firstFailing : List (Nat × Bool) → Option Nat
  | [] => none
  | (code, ok) :: rest => if ok then firstFailing rest else some code

/-- The header items of a profile image for page `page`, in the order of R183's table, with their codes 1..9 (R191). -/
def headerItems (page : Nat) (h : ProfileHeader) : List (Nat × Bool) :=
  [(1, h.number == page && h.number ≤ 15), (2, within 1 3 h.applicability), (3, within 1500 4000 h.nominalThickness),
    (4, within 1500 4000 h.acceptThickness), (5, within 2000 4000 h.nominalHeight), (6, within 2000 4000 h.maxHeight),
    (7, within 300 1500 h.minSteepness), (8, within 4 32 h.restoreFactor), (9, within 8 48 h.pointCount)]

/-- The point items: code 16 plus the slot; a point fails by a value, or by a lateral position that does not rise (R191). -/
def pointItems : Nat → Option Point → List Point → List (Nat × Bool)
  | _, _, [] => []
  | slot, before, p :: rest =>
    let rises :=
      match before with
      | none => true
      | some q => q.lateral < p.lateral
    (16 + slot, p.lateral ≤ 15000 && p.radial ≤ 6000 && rises) :: pointItems (slot + 1) (some p) rest

/-- The first item of a profile image that fails its test, header first, then points 0..point count − 1 (R183, R191). -/
def profileFault (page : Nat) (i : ProfileImage) : Option Nat :=
  match firstFailing (headerItems page i.header) with
  | some code => some code
  | none => firstFailing (pointItems 0 none (imagePoints i))

/-- The fifteen limits with their codes, in the order of R184's table (R191). -/
def limitItems (v : LimitValues) : List (Nat × Bool) :=
  [(1, within 60000 125000 v.condemnMotor), (2, within 60000 125000 v.condemnTrailer), (3, within 0 1000 v.bogieTolMotor),
    (4, within 0 1000 v.bogieTolTrailer), (5, within 0 2000 v.carTolMotor), (6, within 0 2000 v.carTolTrailer),
    (7, within 0 500 v.axleTol), (8, within 0 500 v.finishTol), (9, within 0 500 v.undercutTol), (10, within 1 1000 v.maxPassDepth),
    (11, within 1 8 v.maxPasses), (12, within 0 3 v.reopenLimit), (13, within 1 500 v.cleanUp), (14, within 0 65535 v.watchReload),
    (15, within 1 2 v.watchMode)]

/-- The first limit that fails its test (R184, R191). -/
def limitsFault (v : LimitValues) : Option Nat := firstFailing (limitItems v)

/-- How a page is judged (R183): an erased page EMPTY; VALID when its check code agrees and every value passes on the page it is for; else
UNUSABLE. -/
def judge (page : Nat) : PageContents → PageStatus
  | .erased => .empty
  | .profile i c =>
    if pageCheckAgrees (.profile i c) && page < Config.limitsPage && profileFault page i == none then .valid else .unusable
  | .limits v c => if pageCheckAgrees (.limits v c) && page == Config.limitsPage && limitsFault v == none then .valid else .unusable
  | .corrupt => .unusable

/-! ## The catalogue -/

/-- OPEN CATALOGUE (R187). -/
def takeOpenCatalogue (s : State) : Taken :=
  if !s.noVisit then refuse s .visitOpen
  else if s.catalogue == .committing then refuse s .storeBusy
  else done { s with catalogue := .opened, staging := .empty } []

/-- OPEN_CATALOGUE (R187). -/
def execOpenCatalogue (s : State) : Result := portCommand .openCatalogue takeOpenCatalogue s

/-- CLOSE CATALOGUE (R188). -/
def takeCloseCatalogue (s : State) : Taken :=
  if s.catalogue == .committing then refuse s .storeBusy else done { s with catalogue := .closed, staging := .empty } []

/-- CLOSE_CATALOGUE (R188). -/
def execCloseCatalogue (s : State) : Result := portCommand .closeCatalogue takeCloseCatalogue s

/-- The two checks that every staging command makes first (R189, R190, R191). -/
def whenOpen (s : State) (then_ : Taken) : Taken :=
  match s.catalogue with
  | .closed => refuse s .catalogueClosed
  | .committing => refuse s .storeBusy
  | .opened => then_

/-- A profile image with all 48 point slots 0 (R189). -/
def blankImage (h : ProfileHeader) : ProfileImage := { header := h, slots := Vector.replicate 48 { lateral := 0, radial := 0 } }

/-- WRITE PROFILE HEAD (R189). -/
def takeWriteProfileHead (h : ProfileHeader) (s : State) : Taken :=
  whenOpen s (if 15 < h.number then refuse s .outOfRange else done { s with staging := .profile h.number (blankImage h) } [])

/-- WRITE_PROFILE_HEAD (R189). -/
def execWriteProfileHead (h : ProfileHeader) (s : State) : Result := portCommand (.writeProfileHead h) (takeWriteProfileHead h) s

/-- WRITE LIMITS (R189). -/
def takeWriteLimits (v : LimitValues) (s : State) : Taken := whenOpen s (done { s with staging := .limits v } [])

/-- WRITE_LIMITS (R189). -/
def execWriteLimits (v : LimitValues) (s : State) : Result := portCommand (.writeLimits v) (takeWriteLimits v) s

/-- ERASE PROFILE (R189). -/
def takeEraseProfile (n : Nat) (s : State) : Taken :=
  whenOpen s (if 15 < n then refuse s .outOfRange else done { s with staging := .erase n } [])

/-- ERASE_PROFILE (R189). -/
def execEraseProfile (n : Nat) (s : State) : Result := portCommand (.eraseProfile n) (takeEraseProfile n) s

/-- Write one slot, its number taken modulo 48 (R190). -/
def writeSlot (slots : Vector Point 48) (k : Nat) (p : Point) : Vector Point 48 := slots.set (k % 48) p (Nat.mod_lt k (by decide))

/-- Point i of the list is written to slot (start + i) modulo 48 (R190). -/
def writeSlots : Vector Point 48 → Nat → List Point → Vector Point 48
  | slots, _, [] => slots
  | slots, k, p :: rest => writeSlots (writeSlot slots k p) (k + 1) rest

/-- WRITE POINTS (R190). -/
def takeWritePoints (start : Nat) (points : List Point) (s : State) : Taken :=
  whenOpen s
    (match s.staging with
    | .profile page i =>
      if 47 < start || points.length < 1 || 16 < points.length then refuse s .outOfRange
      else
        done { s with staging := .profile page { i with slots := writeSlots i.slots start points } }
          (be 1 ((start + points.length) % 48))
    | .empty => refuse s .nothingStaged
    | .limits _ => refuse s .nothingStaged
    | .erase _ => refuse s .nothingStaged)

/-- WRITE_POINTS (R190). -/
def execWritePoints (start : Nat) (points : List Point) (s : State) : Result :=
  portCommand (.writePoints start points) (takeWritePoints start points) s

/-! ## Committing -/

/-- The page a staged image is for (R186). -/
def Staging.page : Staging → Option Nat
  | .empty => none
  | .profile n _ => some n
  | .limits _ => some Config.limitsPage
  | .erase n => some n

/-- The first item of a staged image that fails; an ERASE image has no values (R191). -/
def Staging.fault : Staging → Option Nat
  | .empty => none
  | .profile n i => profileFault n i
  | .limits v => limitsFault v
  | .erase _ => none

/-- COMMIT (R191, R192). -/
def takeCommit (s : State) : Taken :=
  whenOpen s
    (match s.staging.page with
    | none => refuse s .nothingStaged
    | some n =>
      match s.staging.fault with
      | some code => refuseWith s .outOfRange (be 1 code)
      | none => done { s with catalogue := .committing } (be 1 n))

/-- COMMIT (R191). -/
def execCommit (s : State) : Result := portCommand .commit takeCommit s

/-- A profile image as committed: the slots from the point count upwards as 0 (R192). -/
def committedImage (i : ProfileImage) : ProfileImage :=
  { i with slots := ⟨⟨(List.range 48).map (fun k => if k < i.header.pointCount then (i.slots.toList[k]?).getD { lateral := 0, radial := 0 }
      else { lateral := 0, radial := 0 })⟩, by simp⟩ }

/-- What the page is to hold after the write in flight: the image as committed, with the check code formed for it (R192, R193). -/
def Staging.committed : Staging → PageContents
  | .empty => .corrupt
  | .profile _ i => writtenProfile (committedImage i)
  | .limits v => writtenLimits v
  | .erase _ => .erased

/-- The page of the write in flight, while the catalogue is COMMITTING (section 9.3). -/
def State.writeInFlight (s : State) : Option Nat := if s.catalogue == .committing then s.staging.page else none

/-- A page's contents and status written. -/
def State.setPage (s : State) (n : Nat) (c : PageContents) (st : PageStatus) : State :=
  { s with pages := s.pages.setIfInBounds n c, pageStatus := s.pageStatus.setIfInBounds n st }

/-- The status of a page whose read-back agrees (R193). -/
def Staging.goodStatus : Staging → PageStatus
  | .empty => .unusable
  | .profile _ _ => .valid
  | .limits _ => .valid
  | .erase _ => .empty

/-- The working limits after a read-back that agrees (R185, R193). -/
def Staging.limitsAfter (old : LimitValues) : Staging → LimitValues
  | .empty => old
  | .profile _ _ => old
  | .limits v => v
  | .erase _ => old

/-- The write of page n ends with `readBack` in the page, compared with the image as committed, check code included (R193). -/
def State.completeWrite (s : State) (n : Nat) (readBack : PageContents) : State :=
  if readBack == s.staging.committed then
    { s.setPage n readBack s.staging.goodStatus with
      catalogue := .opened, limits := s.staging.limitsAfter s.limits }.flag .storeDone
  else { s.setPage n readBack .unusable with catalogue := .opened }.flag .storeFault

/-- STORE_COMPLETION (R193): a completion with no write in flight changes nothing. -/
def execStoreCompletion (readBack : PageContents) (s : State) : Result :=
  match s.writeInFlight with
  | none => .next s
  | some n => .next (s.completeWrite n readBack)

/-- The write of page n is stopped: the page left partly written, its check code disagreeing with its contents (R194). -/
def State.abortWrite (s : State) (n : Nat) : State :=
  { s.setPage n .corrupt .unusable with catalogue := .opened }.flag .storeFault

/-- STORE RESET (R194). -/
def takeStoreReset (s : State) : Taken :=
  match s.writeInFlight with
  | none => done s (optional 1 none)
  | some n => done (s.abortWrite n) (optional 1 (some n))

/-- STORE_RESET (R194). -/
def execStoreReset (s : State) : Result := portCommand .storeReset takeStoreReset s

/-! ## Reading pages -/

/-- The contents a READ PAGE answer carries: those of a VALID page, else no byte at all (R198). That no presence byte stands before them,
since the status byte tells, is the model's reading (log 16). -/
def State.readContents (s : State) (n : Nat) : List Byte :=
  if s.statusOf n == .valid then contentsBytes (s.page n) else []

/-- READ PAGE (R198): page number, status, then the contents with no presence byte before them (log 16). -/
def takeReadPage (n : Nat) (s : State) : Taken :=
  if 16 < n then refuse s .outOfRange
  else if s.writeInFlight == some n then refuse s .storeBusy
  else done s (be 1 n ++ be 1 (s.statusOf n).code ++ s.readContents n)

/-- READ_PAGE (R198). -/
def execReadPage (n : Nat) (s : State) : Result := portCommand (.readPage n) (takeReadPage n) s

end Sys2Proof.Machine
end

