-- ==== Sys2Proof/Machine/Startup.lean ====
section
/-! DEFINITION. RESET, its end, and the end of the start-up check (R17, R117, R150, R158, R166, R185, R195, R196). -/
namespace Sys2Proof.Machine

/-- The pages as RESET leaves them: a page whose write was in flight is left partly written (R182, R195). -/
def State.pagesAfterReset (s : State) : Vector PageContents 17 :=
  match s.writeInFlight with
  | none => s.pages
  | some n => s.pages.setIfInBounds n .corrupt

/-- RESET: every record, context, list, link, flag and state takes its reset value. The nonvolatile pages stay (R182), the level of the
MOVE REQUEST input and the commands that wait are outside the part. -/
def execReset (s : State) : Result :=
  .next { State.reset with pages := s.pagesAfterReset, moveRequest := s.moveRequest, pending := s.pending }

/-- Station B takes part in TANDEM only (R117, R148). -/
def stationBEnabled : StationMode → Bool
  | .tandem => true
  | .single => false

/-- Link 2 is DISABLED in SINGLE (R166). -/
def linkBState : StationMode → LinkState
  | .tandem => .down
  | .single => .disabled

/-- RESET_END (R117, R148, R166, R196): the strap is sampled and the part is STARTING. It comes only while RESET is asserted. -/
def execResetEnd (strap : StationMode) (s : State) : Result :=
  match s.phase with
  | .resetAsserted =>
    .next { s with phase := .starting, stationMode := strap, stationA := { s.stationA with enabled := true },
                   stationB := { s.stationB with enabled := stationBEnabled strap },
                   linkB := { s.linkB with state := linkBState strap } }
  | .starting => .next s
  | .running => .next s

/-- The seventeen judgements (R183, R196). -/
def judgements (pages : Vector PageContents 17) : Vector PageStatus 17 :=
  ⟨⟨(List.range 17).map (fun n => judge n ((pages[n]?).getD .corrupt))⟩, by simp⟩

/-- The working limits the start-up check loads (R185). -/
def limitsAtStart (page16 : PageContents) : LimitValues :=
  match judge Config.limitsPage page16, page16 with
  | .valid, .limits v _ => v
  | _, _ => shippedLimits

/-- The move state decided from the level of MOVE REQUEST as start-up ends (R158). -/
def State.decideMove (s : State) : State := if s.moveRequest then s.grantMove else { s with moveState := .still }

/-- The effect of the end of the start-up check (R158, R185, R196). -/
def State.endStartUp (s : State) : State :=
  let u := { s with phase := .running, pageStatus := judgements s.pages, limits := limitsAtStart (s.page Config.limitsPage) }
  let u := u.decideMove
  if u.pageStatus.toList.any (· == .unusable) then u.flag .storeFault else u

/-- START_UP_CHECK_END (R196). It comes only while the part is STARTING. -/
def execStartUpCheckEnd (s : State) : Result :=
  match s.phase with
  | .resetAsserted => .next s
  | .starting => .next s.endStartUp
  | .running => .next s

end Sys2Proof.Machine
end

