-- ==== Sys2Proof/Machine/VisitControl.lean ====
section
/-! DEFINITION. Visit Control (chapter 4): opening, loading, windows, closing and reading a visit. -/
namespace Sys2Proof.Machine

/-! ## OPEN VISIT -/

/-- OPEN VISIT (R83). -/
def takeOpenVisit (number : Nat) (trainCode : List Byte) (s : State) : Taken :=
  if !s.noVisit then refuse s .visitOpen
  else if s.catalogue != .closed then refuse s .catalogueOpen
  else if s.statusOf Config.limitsPage != .valid then refuse s .noLimits
  else if number == 0 || !trainCode.all textChar then refuse s .outOfRange
  else done { s with visit := .opened { number := number, trainCode := trainCode }, window1 := none, window2 := none } []

/-- OPEN_VISIT (R83). -/
def execOpenVisit (number : Nat) (trainCode : List Byte) (s : State) : Result :=
  portCommand (.openVisit number trainCode) (takeOpenVisit number trainCode) s

/-! ## LOAD CONSIST -/

/-- A car entry whose class codes name classes and whose profile number lies in 0..15 (R85). -/
def carOfEntry (e : CarEntry) : Option Car :=
  match classOf e.class1, classOf e.class2 with
  | some c1, some c2 => if e.profile ≤ 15 then some { class1 := c1, class2 := c2, profile := e.profile } else none
  | none, _ => none
  | some _, none => none

/-- The cars of a command, where every entry is in range (R85). -/
def carsOfEntries : List CarEntry → Option (List Car)
  | [] => some []
  | e :: rest =>
    match carOfEntry e, carsOfEntries rest with
    | some c, some cs => some (c :: cs)
    | none, _ => none
    | some _, none => none

/-- The lowest car number that fails a check (R85). -/
def lowestFailing (ok : Car → Bool) : List Car → Nat → Option Nat
  | [], _ => none
  | c :: rest, k => if ok c then lowestFailing ok rest (k + 1) else some k

/-- The page a car names is VALID (R85). -/
def State.profileUsable (s : State) (c : Car) : Bool := s.statusOf c.profile == .valid

/-- The profile a car names admits the classes of both its bogies (R85, R86). -/
def State.classesAdmitted (s : State) (c : Car) : Bool :=
  match s.validProfile c.profile with
  | none => false
  | some i => applicabilityAdmits i.header.applicability c.class1 && applicabilityAdmits i.header.applicability c.class2

/-- The class of a bogie 1..2 of a car (R85). -/
def Car.classAt (c : Car) (bogie : Nat) : BogieClass := if bogie == 1 then c.class1 else c.class2

/-- A record after LOAD CONSIST (R5, R17). -/
def loadedRecord (n : Nat) (c : Car) : Record :=
  { Record.vacant with
    position := some { car := carOf n, bogie := bogieOf n, axle := axleOf n, cls := c.classAt (bogieOf n), profile := c.profile },
    stage := .announced }

/-- The table after a load: ordinals of the consist ANNOUNCED, the others as they are (R17, R87). -/
def loadedTable (t : Vector Record 64) (cars : List Car) : Vector Record 64 :=
  tableOf (fun n =>
    match cars[carOf n - 1]? with
    | some c => loadedRecord n c
    | none => tableGet t n)

/-- A car group is MOTOR when either of its bogies is MOTOR (R49). -/
def Car.groupClass (c : Car) : BogieClass := if c.class1 == .motor || c.class2 == .motor then .motor else .trailer

/-- The tolerance of a group by kind and class (R49). -/
def groupTolerance (v : LimitValues) : GroupKind → BogieClass → Nat
  | .bogie, .motor => v.bogieTolMotor
  | .bogie, .trailer => v.bogieTolTrailer
  | .car, .motor => v.carTolMotor
  | .car, .trailer => v.carTolTrailer

/-- Bogie group k of a class, built with its floor absent (R48). -/
def buildBogieGroup (v : LimitValues) (k : Nat) (cls : BogieClass) : Group :=
  { kind := .bogie, index := k, cls := cls, tolerance := groupTolerance v .bogie cls, members := [2 * k - 1, 2 * k], floor := none }

/-- Car group c of a class, built with its floor absent (R48). -/
def buildCarGroup (v : LimitValues) (c : Nat) (cls : BogieClass) : Group :=
  { kind := .car, index := c, cls := cls, tolerance := groupTolerance v .car cls,
    members := [4 * c - 3, 4 * c - 2, 4 * c - 1, 4 * c], floor := none }

/-- The bogie groups of a consist whose first car has number c (R48). -/
def buildBogieGroups (v : LimitValues) : List Car → Nat → List Group
  | [], _ => []
  | car :: rest, c =>
    buildBogieGroup v (2 * c - 1) car.class1 :: buildBogieGroup v (2 * c) car.class2 :: buildBogieGroups v rest (c + 1)

/-- The car groups of a consist whose first car has number c (R48). -/
def buildCarGroups (v : LimitValues) : List Car → Nat → List Group
  | [], _ => []
  | car :: rest, c => buildCarGroup v c car.groupClass :: buildCarGroups v rest (c + 1)

/-- The effect of an accepted LOAD CONSIST (R87, R80, R89). -/
def State.load (s : State) (id : VisitIdentity) (cars : List Car) : State :=
  { s with visit := .loaded id cars, records := loadedTable s.records cars,
           bogieGroups := buildBogieGroups s.limits cars 1, carGroups := buildCarGroups s.limits cars 1,
           reopenList := [], window1 := none, window2 := none }

/-- LOAD CONSIST (R85, R87). -/
def takeLoadConsist (entries : List CarEntry) (s : State) : Taken :=
  match s.visit with
  | .noVisit => refuse s .noVisit
  | .loaded _ _ => refuse s .alreadySet
  | .opened id =>
    if entries.length < 1 || Config.maxCars < entries.length then refuse s .outOfRange
    else
      match carsOfEntries entries with
      | none => refuse s .outOfRange
      | some cars =>
        match lowestFailing s.profileUsable cars 1 with
        | some c => refuseWith s .profileUnusable (be 1 c)
        | none =>
          match lowestFailing s.classesAdmitted cars 1 with
          | some c => refuseWith s .classMismatch (be 1 c)
          | none => done (s.load id cars) []

/-- LOAD_CONSIST (R87). -/
def execLoadConsist (entries : List CarEntry) (s : State) : Result := portCommand (.loadConsist entries) (takeLoadConsist entries) s

/-! ## SET WINDOW -/

/-- An ordinal of a window, 1..64 (R89). -/
def windowOrdinal (n : Nat) : Bool := 1 ≤ n && n ≤ 64

/-- SET WINDOW (R90). -/
def takeSetWindow (w base limit : Nat) (s : State) : Taken :=
  if !s.isLoaded then refuse s .notLoaded
  else if !(1 ≤ w && w ≤ 2) || !windowOrdinal base || !windowOrdinal limit then refuse s .outOfRange
  else if w == 1 then done { s with window1 := some { base := base, limit := limit } } []
  else done { s with window2 := some { base := base, limit := limit } } []

/-- SET_WINDOW (R90). -/
def execSetWindow (w base limit : Nat) (s : State) : Result := portCommand (.setWindow w base limit) (takeSetWindow w base limit) s

/-! ## CLOSE VISIT -/

/-- Some record is held (R94). -/
def State.recordHeld (s : State) : Bool := ordinals.any (fun n => (s.record n).hold != .free)

/-- Some record is ANNOUNCED, PLANNED or BLOCKED (R94). -/
def State.unsettled (s : State) : Bool :=
  ordinals.any (fun n =>
    (s.record n).stage == .announced || (s.record n).stage == .planned || (s.record n).stage == .blocked)

/-- The effect of an accepted CLOSE VISIT (R95); the gauge counts become 0 as the alignment table is emptied (R100). -/
def State.close (s : State) : State :=
  { s.emptyAlignment with
    visit := .noVisit, records := Vector.replicate 64 Record.vacant, bogieGroups := [], carGroups := [], serialMap := [],
    reopenList := [], window1 := none, window2 := none }

/-- The answer to an accepted CLOSE VISIT: identity and stage counts as they stood before it (R96). -/
def State.closeBytes (s : State) (id : VisitIdentity) : List Byte := be 2 id.number ++ id.trainCode ++ s.stageCounts

/-- CLOSE VISIT (R94 to R96). -/
def takeCloseVisit (kind : Nat) (s : State) : Taken :=
  match s.visit.identity with
  | none => refuse s .noVisit
  | some id =>
    match closeKindOf kind with
    | none => refuse s .outOfRange
    | some k =>
      if s.recordHeld then refuse s .holdsPresent
      else if k == .normal && s.unsettled then refuse s .unsettled
      else done s.close (s.closeBytes id)

/-- CLOSE_VISIT (R95). -/
def execCloseVisit (kind : Nat) (s : State) : Result := portCommand (.closeVisit kind) (takeCloseVisit kind) s

/-! ## READ VISIT -/

/-- READ VISIT (R98). -/
def takeReadVisit (s : State) : Taken := done s s.visitBytes

/-- READ_VISIT (R98). -/
def execReadVisit (s : State) : Result := portCommand .readVisit takeReadVisit s

end Sys2Proof.Machine
end

