-- ==== Sys2Proof/Machine/Watch.lean ====
section
/-! DEFINITION. The pass watches (section 6.5): revolution pulses, timebase ticks and expiry. -/
namespace Sys2Proof.Machine

/-- The context of a station whose watch has run out (R131, R133). -/
def StationContext.expired (c : StationContext) : StationContext :=
  { c with passInFlight := false, suspended := false, grant := none, watch := 0 }

/-- A record whose pass was abandoned: CLAMPED, doubtful and not verified; its passes done unchanged (R8, R133, R141). -/
def Record.abandoned (r : Record) : Record := { r with hold := .clamped, doubtful := true, verified := false }

/-- The held record of a station whose watch has run out is written. -/
def State.abandonRecord (s : State) (st : StationId) : State :=
  match (s.station st).held with
  | none => s
  | some n => s.modRecord n Record.abandoned

/-- An expiry (R133): the pass ends, the record is CLAMPED and doubtful, PASS OVERRUN is flagged, ABANDON is sent. -/
def State.expire (s : State) (st : StationId) : State :=
  (((s.abandonRecord st).modStation st StationContext.expired).flag .passOverrun).sendOrder st .abandon (s.heldOrdinal st)

/-- An arrival that counts this station's watch down by one; from 1 to 0 it is an expiry (R132, R133). A watch that does not count is
unchanged. -/
def State.countDown (s : State) (st : StationId) : State :=
  if !(s.station st).counting then s
  else if (s.station st).watch == 1 then s.expire st
  else s.modStation st (fun c => { c with watch := c.watch - 1 })

/-- REV_PULSE (R132): counts this station's own watch in REVOLUTION mode. -/
def execRevPulse (st : StationId) (s : State) : Result :=
  match watchModeOf s.limits with
  | .revolution => .next (s.countDown st)
  | .time => .next s

/-- TIMEBASE_TICK (R132): reaches both Station Controllers in TIME mode. -/
def execTimebaseTick (s : State) : Result :=
  match watchModeOf s.limits with
  | .revolution => .next s
  | .time => .next ((s.countDown .a).countDown .b)

/-- PASS_WATCH_EXPIRY (R133): this station's share of the pulse or tick that counts its watch from 1 to 0. At any other value of the
watch there is no expiry, and nothing changes. -/
def execPassWatchExpiry (st : StationId) (s : State) : Result :=
  if (s.station st).counting && (s.station st).watch == 1 then .next (s.expire st) else .next s

end Sys2Proof.Machine
end

