-- ==== Sys2Proof/Machine/Depot.lean ====
section
/-! DEFINITION. The Depot Port (sections 10.1 to 10.3): select windows and STATUS. -/
namespace Sys2Proof.Machine

/-- STATUS (R205): taken in every state of the part, STARTING included; while RESET is asserted the port takes no window (R200). -/
def execStatus (s : State) : Result :=
  match s.phase with
  | .resetAsserted => .next s
  | .starting => .next (s.answerCommand .status { reason := .done, body := s.statusWord })
  | .running => .next (s.answerCommand .status { reason := .done, body := s.statusWord })

/-- EMPTY_WINDOW (R200): a window in which no byte is shifted in changes nothing. -/
def execEmptyWindow (s : State) : Result := .next s

/-- The frame a read window shifts out: the last answer, or the empty answer (R203). -/
def State.readFrame (s : State) : List Byte :=
  match s.lastAnswer with
  | none => emptyAnswerBytes
  | some a => a.bytes

/-- The bytes a read window shifts out under `shifted` bytes of clock: the frame from its first byte, then filler (R203). -/
def State.shiftedOut (s : State) (shifted : Nat) : List Byte :=
  s.readFrame.take shifted ++ List.replicate (shifted - s.readFrame.length) Config.filler

/-- A read window: a delivery is complete once the last byte of the answer has been shifted out; the last answer is then empty (R203). -/
def State.readOut (s : State) (shifted : Nat) : State :=
  { s with dataOut := s.shiftedOut shifted,
           lastAnswer := if s.readFrame.length ≤ shifted then none else s.lastAnswer }

/-- READ_WINDOW (R203). -/
def execReadWindow (shifted : Nat) (s : State) : Result :=
  match s.phase with
  | .resetAsserted => .next s
  | .starting => .next (s.readOut shifted)
  | .running => .next (s.readOut shifted)

/-- What the port makes of a command window (R201). -/
inductive WindowVerdict where
  /-- Rows 1 to 4: answered by the port, with the code to echo. -/
  | answered (code : Byte) (reason : Reason)
  /-- Row 5: passed to the owning block. -/
  | passed (i : Instr)
  deriving DecidableEq, Repr

/-- The disposition of a command window (R201). -/
def judgeWindow (phase : Phase) (bytes : List Byte) : WindowVerdict :=
  match parseWindow bytes with
  | none => .answered 0#8 .malformed
  | some (code, payload) =>
    if !commandCodes.contains code.toNat then .answered code .unknown
    else
      match decodeCommand code.toNat payload with
      | none => .answered code .malformed
      | some i => if phase == .starting && i != .status then .answered code .starting else .passed i

/-- A host command taken by its owning block (R202). No other command comes through a command window. -/
def takeHostCommand (i : Instr) (s : State) : Result :=
  match i with
  | .status => execStatus s
  | .readVisit => execReadVisit s
  | .lookupOrdinal n => execLookupOrdinal n s
  | .lookupSerial n => execLookupSerial n s
  | .listStage n => execListStage n s
  | .readGroup k n => execReadGroup k n s
  | .readReopenList => execReadReopenList s
  | .readStation n => execReadStation n s
  | .readAlignment => execReadAlignment s
  | .readPage n => execReadPage n s
  | .readAttention => execReadAttention s
  | .replan n => execReplan n s
  | .ruleAcceptDeviation n => execRuleAcceptDeviation n s
  | .ruleCondemn n => execRuleCondemn n s
  | .openVisit n code => execOpenVisit n code s
  | .loadConsist cars => execLoadConsist cars s
  | .setWindow w base limit => execSetWindow w base limit s
  | .closeVisit k => execCloseVisit k s
  | .haltPass n => execHaltPass n s
  | .resumePass n => execResumePass n s
  | .resetLink n => execResetLink n s
  | .openCatalogue => execOpenCatalogue s
  | .writeProfileHead h => execWriteProfileHead h s
  | .writePoints start ps => execWritePoints start ps s
  | .writeLimits v => execWriteLimits v s
  | .eraseProfile n => execEraseProfile n s
  | .commit => execCommit s
  | .storeReset => execStoreReset s
  | .closeCatalogue => execCloseCatalogue s
  | .ackEvents m => execAckEvents m s
  | .setEvent src en lvl => execSetEvent src en lvl s
  | .reset | .resetEnd _ | .startUpCheckEnd | .moveRequestRise | .moveRequestFall | .revPulse _ | .timebaseTick
  | .passWatchExpiry _ | .storeCompletion _ | .cellFrameArrival _ _ | .transmissionStart _ | .transmissionEnd _ | .hello _
  | .gaugeReport | .aligned | .claim _ | .grantPass _ | .startPass _ | .passDone _ | .verify _ | .release _ | .readContour _
  | .contourNext _ | .emptyWindow | .readWindow _ | .malformedCommandWindow _ | .malformedFrameDiscarded _ _ => .next s

/-- A command window of the part out of RESET: answered by the port in rows 1 to 4, else taken by the command's owner (R201). -/
def State.commandWindow (s : State) (bytes : List Byte) : Result :=
  match judgeWindow s.phase bytes with
  | .answered code reason => .next (s.putAnswer bytes.length code (.bare reason))
  | .passed i => takeHostCommand i s

/-- MALFORMED_COMMAND_WINDOW (R200, R201): a window with these bytes, classified by its first byte. One whose frame is good is the
window of the command it carries. -/
def execMalformedCommandWindow (bytes : List Byte) (s : State) : Result :=
  match s.phase, bytes with
  | .resetAsserted, _ => .next s
  | .starting, [] => execEmptyWindow s
  | .running, [] => execEmptyWindow s
  | .starting, b :: rest => if b == Config.readMarker then execReadWindow rest.length s else s.commandWindow (b :: rest)
  | .running, b :: rest => if b == Config.readMarker then execReadWindow rest.length s else s.commandWindow (b :: rest)

end Sys2Proof.Machine
end

