-- ==== Sys2Proof/Machine/Dispatch.lean ====
section
/-! DEFINITION. The dispatch: one arm per command, each one direct call of its meaning. -/
namespace Sys2Proof.Machine

/-- The meaning of a command on everything but the queue. -/
def exec (i : Instr) (s : State) : Host.Outcome State Fault Refusal :=
  match i with
  | .reset => Sys2Proof.Machine.execReset s
  | .resetEnd strap => Sys2Proof.Machine.execResetEnd strap s
  | .startUpCheckEnd => Sys2Proof.Machine.execStartUpCheckEnd s
  | .moveRequestRise => Sys2Proof.Machine.execMoveRequestRise s
  | .moveRequestFall => Sys2Proof.Machine.execMoveRequestFall s
  | .revPulse st => Sys2Proof.Machine.execRevPulse st s
  | .timebaseTick => Sys2Proof.Machine.execTimebaseTick s
  | .passWatchExpiry st => Sys2Proof.Machine.execPassWatchExpiry st s
  | .storeCompletion readBack => Sys2Proof.Machine.execStoreCompletion readBack s
  | .cellFrameArrival l f => Sys2Proof.Machine.execCellFrameArrival l f s
  | .transmissionStart l => Sys2Proof.Machine.execTransmissionStart l s
  | .transmissionEnd l => Sys2Proof.Machine.execTransmissionEnd l s
  | .hello l => Sys2Proof.Machine.execHello l s
  | .gaugeReport => Sys2Proof.Machine.execGaugeReport s
  | .aligned => Sys2Proof.Machine.execAligned s
  | .claim st => Sys2Proof.Machine.execClaim st s
  | .grantPass st => Sys2Proof.Machine.execGrantPass st s
  | .startPass st => Sys2Proof.Machine.execStartPass st s
  | .passDone st => Sys2Proof.Machine.execPassDone st s
  | .verify st => Sys2Proof.Machine.execVerify st s
  | .release st => Sys2Proof.Machine.execRelease st s
  | .readContour st => Sys2Proof.Machine.execReadContour st s
  | .contourNext st => Sys2Proof.Machine.execContourNext st s
  | .emptyWindow => Sys2Proof.Machine.execEmptyWindow s
  | .readWindow shifted => Sys2Proof.Machine.execReadWindow shifted s
  | .malformedCommandWindow bytes => Sys2Proof.Machine.execMalformedCommandWindow bytes s
  | .status => Sys2Proof.Machine.execStatus s
  | .readVisit => Sys2Proof.Machine.execReadVisit s
  | .lookupOrdinal ordinal => Sys2Proof.Machine.execLookupOrdinal ordinal s
  | .lookupSerial serial => Sys2Proof.Machine.execLookupSerial serial s
  | .listStage code => Sys2Proof.Machine.execListStage code s
  | .readGroup kind index => Sys2Proof.Machine.execReadGroup kind index s
  | .readReopenList => Sys2Proof.Machine.execReadReopenList s
  | .readStation station => Sys2Proof.Machine.execReadStation station s
  | .readAlignment => Sys2Proof.Machine.execReadAlignment s
  | .readPage page => Sys2Proof.Machine.execReadPage page s
  | .readAttention => Sys2Proof.Machine.execReadAttention s
  | .replan ordinal => Sys2Proof.Machine.execReplan ordinal s
  | .ruleAcceptDeviation ordinal => Sys2Proof.Machine.execRuleAcceptDeviation ordinal s
  | .ruleCondemn ordinal => Sys2Proof.Machine.execRuleCondemn ordinal s
  | .openVisit number trainCode => Sys2Proof.Machine.execOpenVisit number trainCode s
  | .loadConsist cars => Sys2Proof.Machine.execLoadConsist cars s
  | .setWindow w base limit => Sys2Proof.Machine.execSetWindow w base limit s
  | .closeVisit kind => Sys2Proof.Machine.execCloseVisit kind s
  | .haltPass station => Sys2Proof.Machine.execHaltPass station s
  | .resumePass station => Sys2Proof.Machine.execResumePass station s
  | .resetLink link => Sys2Proof.Machine.execResetLink link s
  | .openCatalogue => Sys2Proof.Machine.execOpenCatalogue s
  | .writeProfileHead header => Sys2Proof.Machine.execWriteProfileHead header s
  | .writePoints start points => Sys2Proof.Machine.execWritePoints start points s
  | .writeLimits values => Sys2Proof.Machine.execWriteLimits values s
  | .eraseProfile page => Sys2Proof.Machine.execEraseProfile page s
  | .commit => Sys2Proof.Machine.execCommit s
  | .storeReset => Sys2Proof.Machine.execStoreReset s
  | .closeCatalogue => Sys2Proof.Machine.execCloseCatalogue s
  | .ackEvents mask => Sys2Proof.Machine.execAckEvents mask s
  | .setEvent source enable level => Sys2Proof.Machine.execSetEvent source enable level s
  | .malformedFrameDiscarded l why => Sys2Proof.Machine.execMalformedFrameDiscarded l why s

end Sys2Proof.Machine
end

