-- ==== Sys2Proof/Machine/Receiver.lean ====
section
/-! DEFINITION. The receiver of a cell link (R166, R168), as a function of what happens on its line: bytes, RESET and its end. What it
assembles or gives up becomes the commands CELL_FRAME_ARRIVAL and MALFORMED_FRAME_DISCARDED. The table has no row for a byte, so a frame
in progress stands here (log 11). -/
namespace Sys2Proof.Machine

/-- The receiver: idle while RESET is asserted (R166), hunting for a start marker, or the bytes of a frame after it, in arrival order
(R168). -/
inductive Receiver where
  | idle
  | hunting
  | inFrame (bytes : List Byte)
  deriving DecidableEq, Repr

/-- What a receiver meets: a byte, `late` when it comes more than 10 ms after the byte before it (R168), and RESET and its end (R166). -/
inductive LineEvent where
  | byte (late : Bool) (b : Byte)
  | reset
  | resetEnd
  deriving DecidableEq, Repr

/-- The frame that the bytes after a start marker make, once complete: kind, tag, length, payload and two check code bytes (R168). -/
def assembled : List Byte → Option CellFrame
  | kind :: tag :: length :: rest =>
    if rest.length == length.toNat + 2 then
      some { kind := kind, tag := tag, payload := rest.take length.toNat,
             check := BitVec.ofNat 16 (fromBe (rest.drop length.toNat)) }
    else none
  | _ => none

/-- The length byte has just arrived and is greater than 200 (R168). -/
def lengthRefused : List Byte → Bool
  | [_, _, length] => Config.cellPayloadMax < length.toNat
  | _ => false

/-- A byte examined while hunting (R168). -/
def hunt (b : Byte) : Receiver := if b == Config.cellStartMarker then .inFrame [] else .hunting

/-- One byte of a link (R168). A late byte of a frame ends it and is examined afresh; an idle receiver takes no byte (R166). -/
def Receiver.take (r : Receiver) (l : LinkId) (late : Bool) (b : Byte) : Receiver × Option Instr :=
  match r with
  | .idle => (.idle, none)
  | .hunting => (hunt b, none)
  | .inFrame bytes =>
    if late then (hunt b, some (.malformedFrameDiscarded l .byteLate))
    else if lengthRefused (bytes ++ [b]) then (.hunting, some (.malformedFrameDiscarded l .lengthTooGreat))
    else
      match assembled (bytes ++ [b]) with
      | some f => (.hunting, some (.cellFrameArrival l f))
      | none => (.inFrame (bytes ++ [b]), none)

/-- The receiver as reset ends: an idle one hunts; RESET_END comes to no other (R166, log 2). -/
def Receiver.start : Receiver → Receiver
  | .idle => .hunting
  | .hunting => .hunting
  | .inFrame bytes => .inFrame bytes

/-- One event of a link: at RESET a frame partly received is lost and the receiver is idle until reset ends (R166). -/
def Receiver.on (r : Receiver) (l : LinkId) : LineEvent → Receiver × Option Instr
  | .byte late b => r.take l late b
  | .reset => (.idle, none)
  | .resetEnd => (r.start, none)

/-- The commands that a link's events give (R166, R168). -/
def Receiver.run (l : LinkId) : Receiver → List LineEvent → List Instr
  | _, [] => []
  | r, e :: rest => (r.on l e).2.toList ++ Receiver.run l (r.on l e).1 rest

end Sys2Proof.Machine
end

