-- ==== Sys2Proof/Safety.lean ====
section
/-! DEFINITION. What a safe state is: the laws the manual says its rules keep. No step of the part ends in a fault or a refusal, so
safety is these laws, each a conjunct of `State.Safe`. -/
namespace Sys2Proof.Machine

/-! ## RESET and STARTING -/

/-- The link context of a part that is STARTING: nothing but interface answers can stand in it (R170, R197). -/
def LinkContext.starting (c : LinkContext) (st : LinkState) : LinkContext :=
  { LinkContext.afterReset with state := st, outgoing := c.outgoing, transmitting := c.transmitting }

/-- The state of a part whose RESET is asserted: all but the pages, the level of MOVE REQUEST and the waiting commands is as
`State.reset` gives it (R17, R80, R81, R117, R150, R166, R195, R200, R206). -/
def State.underReset (s : State) : State :=
  { State.reset with pages := s.pages, moveRequest := s.moveRequest, pending := s.pending }

/-- The state of a part that is STARTING (R117, R166, R196, R197): beside what RESET leaves, the strap has been sampled, the links may
hold interface answers, and windows have been taken. -/
def State.underStarting (s : State) : State :=
  { s.underReset with
    phase := .starting, stationMode := s.stationMode,
    stationB := { StationContext.afterReset with enabled := stationBEnabled s.stationMode },
    linkGauge := s.linkGauge.starting .down, linkA := s.linkA.starting .down,
    linkB := s.linkB.starting (linkBState s.stationMode), linkMover := s.linkMover.starting .down,
    lastAnswer := s.lastAnswer, dataOut := s.dataOut }

/-- Before the start-up check has ended nothing but what is named in the two shapes has changed (R197). -/
abbrev State.QuietSafe (s : State) : Prop :=
  (s.phase = .resetAsserted → s = s.underReset) ∧ (s.phase = .starting → s = s.underStarting)

/-! ## Cell links -/

/-- The laws of one link context (R166, R167, R169, R171, R173, R174, R176, R178): at most four inbox frames, answered ones older than
untaken ones; the answered frames are the answers that wait, in the same order, kind and tag; at most four interface answers and four
orders wait; orders wait on station links alone; no untaken frame on a link that is not UP; every inbox frame is one the role admits. -/
abbrev LinkContext.Safe (l : LinkId) (c : LinkContext) : Prop :=
  c.inbox.length ≤ Config.inboxDepth
    ∧ c.inbox = c.inbox.filter (fun f => f.answered) ++ c.untaken
    ∧ (c.inbox.filter (fun f => f.answered)).map (fun f => (f.kind.code, f.tag))
        = (c.outgoing.filter (fun f => f.origin == .inboxAnswer)).map (fun f => (f.kind, f.tag))
    ∧ c.waiting .interfaceAnswer ≤ Config.interfaceAnswerDepth
    ∧ c.waiting .order ≤ Config.orderDepth
    ∧ (l = .gauge ∨ l = .mover → c.waiting .order = 0)
    ∧ (c.transmitting = true → c.outgoing ≠ [])
    ∧ (c.state ≠ .up → c.untaken = [])
    ∧ (∀ f ∈ c.inbox, l.admits f.kind = true ∧ f.kind.fits f.payload.length = true)

/-- The laws of the four links; link 2 alone can be DISABLED, and it is exactly in SINGLE mode (R148, R166). -/
abbrev State.LinksSafe (s : State) : Prop :=
  (∀ l ∈ allLinks, LinkContext.Safe l (s.link l))
    ∧ (∀ l ∈ allLinks, l ≠ .stationB → (s.link l).state ≠ .disabled)
    ∧ (s.phase = .running → (s.linkB.state = .disabled ↔ s.stationMode = .single))

/-! ## Holds and station contexts -/

/-- The hold that a station context stands for (R116). -/
def StationContext.hold (c : StationContext) : Hold :=
  match c.passInFlight, c.suspended with
  | false, _ => .clamped
  | true, false => .cutting
  | true, true => .suspended

/-- The laws of one station context and the record it holds (R13, R20, R21, R24, R116, R123, R144, R159, R177). -/
abbrev State.StationSafe (s : State) (st : StationId) : Prop :=
  let c := s.station st
  (c.suspended = true → c.passInFlight = true)
    ∧ (c.held = none → c.passInFlight = false ∧ c.grant = none ∧ c.cursor = none)
    ∧ (∀ n ∈ c.held,
        1 ≤ n ∧ n ≤ s.recordCount ∧ s.alignedAt st = some n ∧ (s.link (stationLink st)).state = .up
          ∧ (s.record n).holder = some st ∧ (s.record n).hold = c.hold
          ∧ (c.grant.isSome = true → c.passInFlight = false ∧ (s.record n).stage = .planned ∧ (s.record n).doubtful = false)
          ∧ (c.grant.isSome = true ∨ c.passInFlight = true → (s.record n).passesDone < s.limits.maxPasses)
          ∧ (∀ k ∈ c.cursor, k.profile = (s.record n).profile ∧ (s.validProfile k.profile).isSome = true))
    ∧ (∀ d ∈ c.grant, 1 ≤ d ∧ d ≤ s.limits.maxPassDepth)

/-- The stages a hold stands together with (R21). -/
def Hold.standsWith : Hold → Stage → Bool
  | .free, _ => true
  | .clamped, .planned => true
  | .clamped, .blocked => true
  | .clamped, .condemned => true
  | .clamped, _ => false
  | .cutting, g => g == .planned
  | .suspended, g => g == .planned

/-- The laws of one record's hold fields (R15, R20, R21). -/
abbrev State.HoldSafe (s : State) (n : Nat) : Prop :=
  let r := s.record n
  (r.hold = .free ↔ r.holder = none)
    ∧ (∀ st ∈ r.holder, (s.station st).held = some n)
    ∧ r.hold.standsWith r.stage = true
    ∧ (r.verified = true → r.hold ≠ .free ∧ r.stage = .planned)

/-- The laws of the holds and the station contexts; station B takes part in TANDEM alone (R117, R148). -/
abbrev State.HoldsSafe (s : State) : Prop :=
  s.StationSafe .a ∧ s.StationSafe .b ∧ (∀ n ∈ ordinals, s.HoldSafe n)
    ∧ (s.phase = .running → s.stationA.enabled = true ∧ s.stationB.enabled = stationBEnabled s.stationMode)

/-! ## Motion -/

/-- The laws of the move handshake and the alignment table (R100, R148, R150, R151, R154, R158, R159). -/
abbrev State.MotionSafe (s : State) : Prop :=
  (s.phase = .running → (s.moveState = .still ↔ s.moveRequest = false))
    ∧ (s.moveState = .granted → s.alignment = .empty ∧ s.anyHeld = false)
    ∧ (s.moveState = .pending → s.anyHeld = true)
    ∧ s.alignment.present.Nodup
    ∧ (∀ n ∈ s.alignment.present, 1 ≤ n ∧ n ≤ s.recordCount)
    ∧ (s.stationMode = .single → s.alignment.stationB = none)
    ∧ s.gaugeCounts.accepted ≤ Config.gaugeCountMax ∧ s.gaugeCounts.refused ≤ Config.gaugeCountMax

/-! ## Records -/

/-- The position fields that the consist gives an ordinal (R3, R5). -/
def State.loadedPosition (s : State) (n : Nat) : Option Position :=
  match s.consist[carOf n - 1]? with
  | none => none
  | some c => (loadedRecord n c).position

/-- The laws of one record's fields (R1, R5, R7, R11, R12, R13, R14, R17, R18, R73). -/
abbrev State.RecordSafe (s : State) (n : Nat) : Prop :=
  let r := s.record n
  (r.stage = .vacant ↔ s.recordCount < n)
    ∧ (r.stage = .vacant → r = Record.vacant)
    ∧ r.position = s.loadedPosition n
    ∧ (r.stage = .announced → r = { Record.vacant with position := r.position, stage := .announced })
    ∧ (r.stage ≠ .vacant → r.stage ≠ .announced → r.measured.isSome = true ∧ r.ownNeed.isSome = true)
    ∧ (∀ m ∈ r.measured, m.block.inRange = true)
    ∧ (r.stage = .planned ∨ r.stage = .finished → r.target.isSome = true)
    ∧ (r.blocked.isSome = true ↔ r.stage = .blocked)
    ∧ (r.condemnCause.isSome = true ↔ r.stage = .condemned)
    ∧ (∀ b ∈ r.blocked, 1 ≤ b.blocker ∧ b.blocker ≤ s.recordCount ∧ carOf b.blocker = carOf n ∧ ∀ t ∈ r.target, b.heldBack ≤ t)
    ∧ r.passesDone ≤ s.limits.maxPasses ∧ r.reopenCount ≤ s.limits.reopenLimit

/-- The laws of the records, and of the visit they stand in (R1, R81, R83, R85). -/
abbrev State.RecordsSafe (s : State) : Prop :=
  (∀ n ∈ ordinals, s.RecordSafe n)
    ∧ s.consist.length ≤ Config.maxCars
    ∧ (s.isLoaded = true → 1 ≤ s.consist.length)
    ∧ (∀ id ∈ s.visit.identity, id.number ≠ 0 ∧ id.trainCode.all textChar = true)

/-! ## Groups and lists -/

/-- The laws of one group: its floor is the lowest counted target, and counted targets differ by no more than its tolerance (R51,
R52). -/
abbrev State.GroupSafe (s : State) (g : Group) : Prop :=
  g.floor = s.floorOf g.members
    ∧ (∀ a ∈ s.countedTargets g.members, ∀ b ∈ s.countedTargets g.members, a ≤ b + g.tolerance)

/-- The groups are those of the consist, with the tolerances of the working limits, and keep their laws (R48, R49, R51, R52). -/
abbrev State.GroupsSafe (s : State) : Prop :=
  s.bogieGroups.map (fun g => { g with floor := none }) = buildBogieGroups s.limits s.consist 1
    ∧ s.carGroups.map (fun g => { g with floor := none }) = buildCarGroups s.limits s.consist 1
    ∧ (∀ g ∈ s.bogieGroups, s.GroupSafe g) ∧ (∀ g ∈ s.carGroups, s.GroupSafe g)

/-- The law of the reopen list (R68). -/
abbrev State.ReopenSafe (s : State) : Prop :=
  s.reopenList.Nodup
    ∧ ∀ n ∈ s.reopenList,
        1 ≤ n ∧ n ≤ 64 ∧ (s.record n).stage = .planned ∧ (s.record n).hold = .free ∧ 1 ≤ (s.record n).reopenCount

/-- The law of the serial map (R6, R26): serials rise, each entry names a record that carries that serial, and each serial carried is in
the map. -/
abbrev State.SerialsSafe (s : State) : Prop :=
  s.serialMap.Pairwise (fun a b => a.1 < b.1)
    ∧ (∀ e ∈ s.serialMap, e.1 ≠ 0 ∧ 1 ≤ e.2 ∧ e.2 ≤ s.recordCount ∧ (s.record e.2).serial = some e.1)
    ∧ (∀ n ∈ ordinals, ∀ x ∈ (s.record n).serial, (x, n) ∈ s.serialMap)

/-! ## The profile store -/

/-- The law of a staged image (R186, R191): its page is one it may be for, and while it is being written it passed COMMIT's tests. -/
def Staging.fitsPage : Staging → Bool
  | .empty => true
  | .profile n i => n ≤ 15 && i.header.number == n
  | .limits _ => true
  | .erase n => n ≤ 15

/-- The numbers of the pages (R182). -/
def pageNumbers : List Nat := List.range 17

/-- The laws of the store (R32, R83, R85, R182, R183, R185, R186, section 9.3): the catalogue is CLOSED while a visit is open; a status
VALID or EMPTY agrees with what the page holds; the working limits lie in range, and a VALID page 16 holds them; while a visit is open
page 16 is VALID, and so is each profile the consist names, admitting the car's classes. -/
abbrev State.StoreSafe (s : State) : Prop :=
  (s.catalogue = .closed → s.staging = .empty)
    ∧ (s.catalogue = .committing → s.staging.page.isSome = true ∧ s.staging.fault = none)
    ∧ s.staging.fitsPage = true
    ∧ (s.visit ≠ .noVisit → s.catalogue = .closed ∧ s.statusOf Config.limitsPage = .valid)
    ∧ (∀ c ∈ s.consist, c.profile ≤ 15 ∧ s.classesAdmitted c = true)
    ∧ limitsFault s.limits = none
    ∧ (s.phase = .running → ∀ n ∈ pageNumbers,
        (s.statusOf n = .valid → judge n (s.page n) = .valid) ∧ (s.statusOf n = .empty → s.page n = .erased))
    ∧ (s.phase = .running → s.statusOf Config.limitsPage = .valid → s.page Config.limitsPage = writtenLimits s.limits)

/-! ## Attention -/

/-- The laws of the sources (R206, R208): levels 0..7, and the flag of a condition source is set while its condition holds. -/
abbrev State.AttentionSafe (s : State) : Prop :=
  ∀ k ∈ allSources, (s.source k).level ≤ 7 ∧ (s.condition k = true → (s.source k).flag = true)

/-! ## All of them -/

/-- A safe state: every law the manual says its rules keep. -/
abbrev State.Safe (s : State) : Prop :=
  s.QuietSafe ∧ s.LinksSafe ∧ s.HoldsSafe ∧ s.MotionSafe ∧ s.RecordsSafe ∧ s.GroupsSafe ∧ s.ReopenSafe ∧ s.SerialsSafe
    ∧ s.StoreSafe ∧ s.AttentionSafe

end Sys2Proof.Machine
end

