-- ==== Sys2Proof/Certificates/Slice0/Obligations.lean ====
section
/-! DEFINITION. The statements for the provers, chapter by chapter of spec/. An equation `exec c s = .next t` with `t` written over `s`
says the result and the whole frame: every field that `t` does not write is as in `s`. -/

namespace Sys2Proof.Claims
open Sys2Proof.Machine

/-- In state `u`, frame `f` of link `l` is answered: reason and the bytes after it (R173, R175). Nothing else of `u` changes. -/
def answered (u : State) (l : LinkId) (f : InboxFrame) (reason : Reason) (body : List Byte) : Result :=
  .next (u.answerInbox l f { reason := reason, body := body })

/-- In state `u`, host command `i` is answered: reason and the bytes after it (R202). Nothing else of `u` changes. -/
def replied (u : State) (i : Instr) (reason : Reason) (body : List Byte) : Result :=
  .next (u.answerCommand i { reason := reason, body := body })

/-- One byte for yes or no (R214). -/
def bit (b : Bool) : List Byte := if b then [1#8] else [0#8]

/-- A fault recorded on a link (R172). -/
def faulted (s : State) (l : LinkId) (cause : FaultCause) : State := (s.setLink l { s.link l with fault := cause }).flag .linkFault

/-- An interface answer put into the outgoing list, unless four wait (R171). -/
def interfaced (s : State) (l : LinkId) (f : CellFrame) (payload : List Byte) : State :=
  if ((s.link l).outgoing.filter (fun g => g.origin == .interfaceAnswer)).length < 4 then
    s.setLink l { s.link l with
      outgoing := (s.link l).outgoing ++ [{ origin := .interfaceAnswer, kind := f.kind, tag := f.tag.setWidth 4, payload := payload }] }
  else s

/-- A pass watch counted down by one (R131, R132, R133). -/
def countedDown (s : State) (st : StationId) : State :=
  let c := s.station st
  if c.passInFlight = true ∧ c.suspended = false ∧ c.watch ≠ 0 then
    if c.watch = 1 then s.expire st else s.setStation st { c with watch := c.watch - 1 }
  else s

/-- The move becomes GRANTED and the alignment table is emptied (R152, R154, R162). -/
def granted (s : State) : State :=
  { s with moveState := .granted, alignment := { gauge := none, stationA := none, stationB := none },
           gaugeCounts := { accepted := 0, refused := 0 } }

/-- A hold freed in this state completes a pending move when no record is held (R154). -/
def freed (s : State) : State :=
  if s.moveState = .pending ∧ s.stationA.held = none ∧ s.stationB.held = none then granted s else s

/-- A record's ordinal leaves the reopen list (R69). -/
def unlisted (s : State) (n : Nat) : State := { s with reopenList := s.reopenList.filter (fun m => m != n) }

/-- The lowest of the present values. -/
def lowest (l : List (Option Nat)) : Option Nat := (l.filterMap (fun x => x)).min?

/-- Floors recomputed in state `u`: a group with a changed member takes the lowest target of its counted members, absent when there is none,
and every other group stands as it was (R51). -/
def refloored (u : State) (changed : List Nat) (gs : List Group) : List Group :=
  gs.map (fun g =>
    if ∃ m ∈ g.members, m ∈ changed then
      { g with floor := lowest (g.members.map (fun m => if (u.record m).counted then (u.record m).target else none)) }
    else g)

/-- One window as READ VISIT gives it: base and limit, 0 for absent, and whether it is active (R98, R214). -/
def windowShown (w : Option Window) : List Byte :=
  match w with
  | none => [0#8, 0#8, 0#8]
  | some w => be 1 w.base ++ be 1 w.limit ++ bit (decide (w.base ≤ w.limit))

/-- The bytes of a frame after its start marker, as they arrive in time (R168). -/
def inTime (bytes : List Byte) : List LineEvent := bytes.map (.byte false)

/-- A group bound: the lowest counted target of the others, plus the tolerance (R57). -/
def othersBound (s : State) (n : Nat) (g : Option Group) : Option Nat :=
  g.bind (fun g => ((g.members.filter (fun m => m != n && (s.record m).counted)).filterMap (fun m => (s.record m).target)).min?.map
    (fun t => t + g.tolerance))

/-- The target of a member after a set of lowerings (R59). -/
def loweredTarget (s : State) (ls : List Lowering) (m : Nat) : Option Nat :=
  match ls.find? (fun l => l.ordinal == m) with
  | some l => some l.target
  | none => (s.record m).target

/-- The target of a member when the subject `n` stands at `t` and the lowerings have been made (R59). -/
def cascadeTarget (s : State) (n t : Nat) (ls : List Lowering) (m : Nat) : Option Nat :=
  if m = n then some t else if (s.record m).counted then loweredTarget s ls m else none

end Sys2Proof.Claims

open Sys2Proof Sys2Proof.Machine Sys2Proof.Claims

/-! ## The block's queue and its steps -/

/-- Step takes the command at the front with the queue's rest; on an empty queue the block idles (the model's choice, log 1). -/
def Obligations.StepTakesTheFrontCommand : Prop :=
  (∀ (c : Instr) (s : State), step { s with pending := c :: s.pending } = exec c s) ∧ (∀ s : State, s.pending = [] → step s = .next s)

/-- Every command ends in a next state, whatever the state, and leaves the queue as it is. The queue, and that no meaning ends in a fault or
a refusal, are the model's DESIGN CHOICE (log 1), with log 2 for arrivals that cannot occur and log 19 for states that no run reaches. -/
def Obligations.EveryCommandCompletes : Prop :=
  ∀ (c : Instr) (s : State), ∃ t, exec c s = .next t ∧ t.pending = s.pending

/-- The state after reset keeps every law of `State.Safe`. The state after reset is in part the model's (logs 3 to 6, 25). -/
def Obligations.ResetStateIsSafe : Prop := State.reset.Safe

/-- RESET (R17, R80, R81, R89, R100, R117, R150, R166, R185, R186, R195, R200, R206) and its end (R117, R148, R166, R196). The model's
choices: the state while RESET is asserted is State.reset (log 3), `enabled`, the strap, link 2 and the page statuses until they are
written (logs 4, 5), the factory pages (log 6), the one value that a write cut off leaves in its page (log 7), the level of MOVE REQUEST
kept (log 25), RESET_END elsewhere without effect (log 2). -/
def Obligations.ResetAndItsEnd : Prop :=
  (∀ s : State, exec .reset s = .next
    { phase := .resetAsserted, stationMode := .tandem, records := Vector.replicate 64 Record.vacant, serialMap := [],
      bogieGroups := [], carGroups := [], reopenList := [], visit := .noVisit, window1 := none, window2 := none,
      gaugeCounts := { accepted := 0, refused := 0 },
      stationA := { enabled := true, held := none, grant := none, passInFlight := false, suspended := false, watch := 0, cursor := none },
      stationB := { enabled := true, held := none, grant := none, passInFlight := false, suspended := false, watch := 0, cursor := none },
      moveState := .still, moveRequest := s.moveRequest, alignment := { gauge := none, stationA := none, stationB := none },
      linkGauge := { state := .down, inbox := [], outgoing := [], transmitting := false, fault := .none },
      linkA := { state := .down, inbox := [], outgoing := [], transmitting := false, fault := .none },
      linkB := { state := .down, inbox := [], outgoing := [], transmitting := false, fault := .none },
      linkMover := { state := .down, inbox := [], outgoing := [], transmitting := false, fault := .none },
      pages := match s.writeInFlight with
        | none => s.pages
        | some n => s.pages.setIfInBounds n .corrupt
      pageStatus := Vector.replicate 17 .empty, catalogue := .closed, staging := .empty,
      limits := { condemnMotor := 85500, condemnTrailer := 85000, bogieTolMotor := 100, bogieTolTrailer := 150, carTolMotor := 300,
                  carTolTrailer := 400, axleTol := 30, finishTol := 20, undercutTol := 10, maxPassDepth := 300, maxPasses := 6,
                  reopenLimit := 2, cleanUp := 50, watchReload := 250, watchMode := 1 },
      lastAnswer := none, dataOut := [], attention := Vector.replicate 12 { flag := false, enable := false, level := 0 },
      pending := s.pending })
    ∧ exec .reset State.reset = .next State.reset
    ∧ (∀ n < 16, State.reset.page n = .erased) ∧ State.reset.page 16 = writtenLimits State.reset.limits
    ∧ (∀ (s : State) (m : StationMode), s.phase = .resetAsserted → exec (.resetEnd m) s = .next
        { s with phase := .starting, stationMode := m, stationA := { s.stationA with enabled := true },
                 stationB := { s.stationB with enabled := m == .tandem },
                 linkB := { s.linkB with state := if m = .single then .disabled else .down } })
    ∧ (∀ (s : State) (m : StationMode), s.phase ≠ .resetAsserted → exec (.resetEnd m) s = .next s)

/-- The end of the start-up check (R158, R185, R196). The end elsewhere without effect is the model's choice (log 2). -/
def Obligations.StartUpCheckEndTakesThePartIntoWork : Prop :=
  (∀ s : State, s.phase = .starting → ∃ t : State,
    exec .startUpCheckEnd s = .next t
      ∧ t = { (if s.moveRequest then granted s else { s with moveState := .still }) with
                phase := .running, pageStatus := t.pageStatus, limits := t.limits, attention := t.attention }
      ∧ (∀ n < 17, t.statusOf n = judge n (s.page n))
      ∧ (∀ v c, s.page 16 = .limits v c → judge 16 (s.page 16) = .valid → t.limits = v)
      ∧ (judge 16 (s.page 16) ≠ .valid → t.limits = shippedLimits)
      ∧ (∀ k : Source, t.source k =
          if k = .storeFault ∧ ∃ n ∈ pageNumbers, judge n (s.page n) = .unusable then { s.source k with flag := true } else s.source k)
      ∧ (s.Safe → t.alignment = { gauge := none, stationA := none, stationB := none }))
    ∧ (∀ s : State, s.phase ≠ .starting → exec .startUpCheckEnd s = .next s)

/-! ## Pages -/

/-- When a page is judged VALID, EMPTY or UNUSABLE (R183, R184). How contents are typed, and the rule of a page's check code, are the
model's choice (log 7). -/
def Obligations.PageTestsDecideTheStatus : Prop :=
  (∀ (n : Nat) (i : ProfileImage) (c : CheckCode),
    let passes : Prop := c = pageCheckCode (profileBody i)
      ∧ n ≤ 15 ∧ i.header.number = n ∧ 1 ≤ i.header.applicability ∧ i.header.applicability ≤ 3
      ∧ 1500 ≤ i.header.nominalThickness ∧ i.header.nominalThickness ≤ 4000
      ∧ 1500 ≤ i.header.acceptThickness ∧ i.header.acceptThickness ≤ 4000
      ∧ 2000 ≤ i.header.nominalHeight ∧ i.header.nominalHeight ≤ 4000 ∧ 2000 ≤ i.header.maxHeight ∧ i.header.maxHeight ≤ 4000
      ∧ 300 ≤ i.header.minSteepness ∧ i.header.minSteepness ≤ 1500 ∧ 4 ≤ i.header.restoreFactor ∧ i.header.restoreFactor ≤ 32
      ∧ 8 ≤ i.header.pointCount ∧ i.header.pointCount ≤ 48
      ∧ (∀ p ∈ i.slots.toList.take i.header.pointCount, p.lateral ≤ 15000 ∧ p.radial ≤ 6000)
      ∧ (i.slots.toList.take i.header.pointCount).Pairwise (fun p q => p.lateral < q.lateral)
    (judge n (.profile i c) = .valid ↔ passes) ∧ (¬ passes → judge n (.profile i c) = .unusable))
    ∧ (∀ (n : Nat) (v : LimitValues) (c : CheckCode),
      let passes : Prop := c = pageCheckCode (limitsBody v)
        ∧ n = 16 ∧ 60000 ≤ v.condemnMotor ∧ v.condemnMotor ≤ 125000 ∧ 60000 ≤ v.condemnTrailer ∧ v.condemnTrailer ≤ 125000
        ∧ v.bogieTolMotor ≤ 1000 ∧ v.bogieTolTrailer ≤ 1000 ∧ v.carTolMotor ≤ 2000 ∧ v.carTolTrailer ≤ 2000
        ∧ v.axleTol ≤ 500 ∧ v.finishTol ≤ 500 ∧ v.undercutTol ≤ 500 ∧ 1 ≤ v.maxPassDepth ∧ v.maxPassDepth ≤ 1000
        ∧ 1 ≤ v.maxPasses ∧ v.maxPasses ≤ 8 ∧ v.reopenLimit ≤ 3 ∧ 1 ≤ v.cleanUp ∧ v.cleanUp ≤ 500 ∧ v.watchReload ≤ 65535
        ∧ (v.watchMode = 1 ∨ v.watchMode = 2)
      (judge n (.limits v c) = .valid ↔ passes) ∧ (¬ passes → judge n (.limits v c) = .unusable))
    ∧ (∀ n : Nat, judge n .erased = .empty ∧ judge n .corrupt = .unusable)
    ∧ (∀ (n : Nat) (i : ProfileImage), profileFault n i = none → judge n (writtenProfile (committedImage i)) = .valid)
    ∧ (∀ v : LimitValues, limitsFault v = none → judge 16 (writtenLimits v) = .valid)

/-! ## The depot port -/

/-- An answer writes the last answer and the bytes shifted out, nothing else (R200, R202); while STARTING every command but STATUS is
answered STARTING (R201); while RESET is asserted no window is taken (R200). The model's choices: the record of data out (log 14),
windows under RESET (log 13). -/
def Obligations.PortAnswersCommands : Prop :=
  ∀ (s : State) (i : Instr) (code : Nat) (p : List Byte), encodeCommand i = some (code, p) →
    (∀ r : Reply, s.answerCommand i r =
      { s with lastAnswer := some { code := BitVec.ofNat 8 code, reply := r }, dataOut := List.replicate (5 + p.length) 255#8 })
      ∧ (s.phase = .starting → i ≠ .status → exec i s = replied s i .starting [])
      ∧ (s.phase = .resetAsserted → exec i s = .next s)

/-- An empty window changes nothing; a read window shifts the last answer out, and empties it once its last byte has been shifted out
(R200, R203), the frame laid out as R216 gives it. The model's choices: the record of data out (log 14), the operand of a read window
(log 15), windows under RESET (log 13). -/
def Obligations.EmptyAndReadWindows : Prop :=
  (∀ s : State, exec .emptyWindow s = .next s)
    ∧ (∀ (s : State) (k : Nat), s.phase ≠ .resetAsserted →
        let frame := match s.lastAnswer with
          | none => [213#8, 0#8, 0#8, 0#8] ++ crcBytes [0#8, 0#8, 0#8]
          | some a => a.bytes
        exec (.readWindow k) s = .next
          { s with dataOut := (frame ++ List.replicate (k - frame.length) 255#8).take k,
                   lastAnswer := if frame.length ≤ k then none else s.lastAnswer })
    ∧ (∀ (s : State) (k : Nat), s.phase = .resetAsserted → exec (.readWindow k) s = .next s)
    ∧ (∀ a : DepotAnswer,
        let covered := [a.code, BitVec.ofNat 8 a.reply.reason.code, BitVec.ofNat 8 a.reply.body.length] ++ a.reply.body
        a.bytes = [213#8] ++ covered ++ be 2 (crc covered).toNat ∧ a.bytes.length = 6 + a.reply.body.length)

/-- The disposition of a command window by its bytes, rows 1 to 5 of R201; which bytes form a complete frame (row 1, R216), and which
payloads carry a command (row 3, R217): those that encode it. That any window's bytes may come by this command is the
model's choice (log 12). -/
def Obligations.CommandWindowRows : Prop :=
  (∀ (s : State) (b : Byte) (rest : List Byte), s.phase ≠ .resetAsserted → b ≠ 214#8 →
    exec (.malformedCommandWindow (b :: rest)) s =
      match parseWindow (b :: rest) with
      | none => .next (s.putAnswer (1 + rest.length) 0#8 { reason := .malformed, body := [] })
      | some (code, p) =>
        if code.toNat ∉ commandCodes then .next (s.putAnswer (1 + rest.length) code { reason := .unknown, body := [] })
        else
          match decodeCommand code.toNat p with
          | none => .next (s.putAnswer (1 + rest.length) code { reason := .malformed, body := [] })
          | some i =>
            if s.phase = .starting ∧ i ≠ .status then .next (s.putAnswer (1 + rest.length) code { reason := .starting, body := [] })
            else exec i s)
    ∧ (∀ (bytes p : List Byte) (code : Byte), parseWindow bytes = some (code, p) ↔
        p.length ≤ 250 ∧ bytes =
          [213#8] ++ ([code, BitVec.ofNat 8 p.length] ++ p) ++ be 2 (crc ([code, BitVec.ofNat 8 p.length] ++ p)).toNat)
    ∧ (∀ (code : Nat) (p : List Byte) (i : Instr), p.length ≤ 250 →
        (decodeCommand code p = some i ↔ i.wf = true ∧ encodeCommand i = some (code, p)))

/-- Encoding a host command, framing it and taking the frame apart gives the command back: no bit of a frame is dropped (R214 to R218),
and a window with that frame is that command (R201 row 5). That a good frame may come by the command for malformed windows is the
model's choice (log 12). -/
def Obligations.CommandFramesCarryTheirCommand : Prop :=
  ∀ (i : Instr) (code : Nat) (p : List Byte), i.wf = true → encodeCommand i = some (code, p) →
    code < 256 ∧ p.length ≤ 250 ∧ code ∈ commandCodes ∧ decodeCommand code p = some i
      ∧ parseWindow (commandFrame code p) = some (BitVec.ofNat 8 code, p)
      ∧ ∀ s : State, exec (.malformedCommandWindow (commandFrame code p)) s = exec i s

/-- STATUS (R205, R218). -/
def Obligations.StatusAnswersTheStatusWord : Prop :=
  ∀ s : State, s.phase ≠ .resetAsserted →
    exec .status s = replied s .status .done
      (bit (s.phase == .starting) ++ be 1 s.catalogue.code ++ be 1 (visitCode s.visit) ++ be 1 s.moveState.code
        ++ bit s.attentionLine
        ++ be 1 s.linkGauge.state.code ++ be 1 s.linkA.state.code ++ be 1 s.linkB.state.code ++ be 1 s.linkMover.state.code
        ++ be 1 s.linkGauge.fault.code ++ be 1 s.linkA.fault.code ++ be 1 s.linkB.fault.code ++ be 1 s.linkMover.fault.code)
    ∧ s.statusWord.length = 13

/-! ## The Wheelset Table -/

/-- R3: the ordinal formula and its inverse. -/
def Obligations.OrdinalFormula : Prop :=
  (∀ c b a : Nat, 1 ≤ c → c ≤ 16 → 1 ≤ b → b ≤ 2 → 1 ≤ a → a ≤ 2 →
    let n := 4 * (c - 1) + 2 * (b - 1) + a
    carOf n = c ∧ bogieOf n = b ∧ axleOf n = a ∧ bogieIndexOf n = 2 * (c - 1) + b)
    ∧ (∀ n : Nat, 1 ≤ n → n ≤ 64 →
      (1 ≤ carOf n ∧ carOf n ≤ 16 ∧ 1 ≤ bogieOf n ∧ bogieOf n ≤ 2 ∧ 1 ≤ axleOf n ∧ axleOf n ≤ 2
        ∧ n = 4 * (carOf n - 1) + 2 * (bogieOf n - 1) + axleOf n)
        ∧ ∀ c b a : Nat, 1 ≤ c → c ≤ 16 → 1 ≤ b → b ≤ 2 → 1 ≤ a → a ≤ 2 → n = 4 * (c - 1) + 2 * (b - 1) + a →
          c = carOf n ∧ b = bogieOf n ∧ a = axleOf n)
    ∧ (∀ c n : Nat, 1 ≤ c → c ≤ 16 → (4 * (c - 1) + 1 ≤ n ∧ n ≤ 4 * c ↔ 1 ≤ n ∧ carOf n = c))

/-- The three lookups (R27, R28, R29), which leave the table unchanged, and the record snapshot, byte by byte at the offsets of R218. -/
def Obligations.TableLookups : Prop :=
  ∀ (s : State) (n : Nat), s.phase = .running →
    (exec (.lookupOrdinal n) s = if n < 1 ∨ 64 < n then replied s (.lookupOrdinal n) .badOrdinal []
        else replied s (.lookupOrdinal n) .done (s.snapshot n))
      ∧ (exec (.lookupSerial n) s =
          if n = 0 then replied s (.lookupSerial n) .outOfRange []
          else match s.serialMap.find? (fun e => e.1 == n) with
            | none => replied s (.lookupSerial n) .notFound []
            | some e => replied s (.lookupSerial n) .done (be 1 e.2 ++ s.snapshot e.2))
      ∧ (exec (.listStage n) s =
          match stageOf n with
          | none => replied s (.listStage n) .outOfRange []
          | some g =>
            let found := ordinals.filter (fun m => (s.record m).stage == g)
            replied s (.listStage n) .done (be 1 found.length ++ found.flatMap (be 1)))
      ∧ (stageOf n = none ↔ 5 < n)
      ∧ (let r := s.record n
        let bytes (off k : Nat) : List Byte := ((s.snapshot n).drop off).take k
        let present (b : Bool) (v : Nat) : Nat := if b then v else 0
        (s.snapshot n).length = 55
          ∧ bytes 0 1 = be 1 n
          ∧ bytes 1 1 = be 1 (present r.position.isSome 1 + present r.holder.isSome 2 + present r.serial.isSome 4
              + present r.measured.isSome 8 + present r.target.isSome 16 + present r.ownNeed.isSome 32 + present r.blocked.isSome 64
              + present r.condemnCause.isSome 128)
          ∧ (r.position = none → bytes 2 5 = be 5 0)
          ∧ (∀ p, r.position = some p →
              bytes 2 5 = be 1 p.car ++ be 1 p.bogie ++ be 1 p.axle ++ be 1 (if p.cls = .motor then 1 else 2) ++ be 1 p.profile)
          ∧ bytes 7 3 = be 1 r.stage.code ++ be 1 r.hold.code
              ++ be 1 (if r.holder = some .a then 1 else if r.holder = some .b then 2 else 0)
          ∧ bytes 10 4 = be 4 (r.serial.getD 0)
          ∧ (r.measured = none → bytes 14 23 = be 23 0)
          ∧ (∀ m, r.measured = some m →
              bytes 14 3 = be 3 m.block.left.diameter ∧ bytes 17 2 = be 2 m.block.left.thickness
                ∧ bytes 19 2 = be 2 m.block.left.height ∧ bytes 21 2 = be 2 m.block.left.steepness
                ∧ bytes 23 2 = be 2 m.block.left.defect
                ∧ bytes 25 3 = be 3 m.block.right.diameter ∧ bytes 28 2 = be 2 m.block.right.thickness
                ∧ bytes 30 2 = be 2 m.block.right.height ∧ bytes 32 2 = be 2 m.block.right.steepness
                ∧ bytes 34 2 = be 2 m.block.right.defect
                ∧ bytes 36 1 = be 1 (if m.source = .gauge then 0 else if m.source = .stationA then 1 else 2))
          ∧ bytes 37 1 = bit r.doubtful ∧ bytes 38 3 = be 3 (r.target.getD 0) ∧ bytes 41 3 = be 3 (r.ownNeed.getD 0)
          ∧ (r.blocked = none → bytes 44 5 = be 5 0)
          ∧ (∀ b, r.blocked = some b → bytes 44 5 = be 3 b.heldBack
              ++ be 1 (if b.reason = .exemptMember then 1 else if b.reason = .reopenLimit then 2 else 3) ++ be 1 b.blocker)
          ∧ bytes 49 2 = be 1 r.passesDone ++ be 1 r.reopenCount
          ∧ bytes 51 3 = bit r.verified ++ bit r.waived ++ bit r.unfit
          ∧ bytes 54 1 = be 1 (if r.condemnCause = some .ownWear then 1 else if r.condemnCause = some .overcut then 2
              else if r.condemnCause = some .ruling then 3 else 0))

/-! ## Wear assessment -/

/-- The acceptance tests and the losses (R34 to R38). -/
def Obligations.LossesOfAMeasurement : Prop :=
  ∀ (h : ProfileHeader) (cleanUp : Nat) (m : Measurement),
    (verdictOf h m = .accepted ↔
      h.acceptThickness ≤ m.left.thickness ∧ h.acceptThickness ≤ m.right.thickness
        ∧ m.left.height ≤ h.maxHeight ∧ m.right.height ≤ h.maxHeight
        ∧ h.minSteepness ≤ m.left.steepness ∧ h.minSteepness ≤ m.right.steepness
        ∧ m.left.defect = 0 ∧ m.right.defect = 0)
      ∧ max (h.nominalThickness - m.left.thickness) (h.nominalThickness - m.right.thickness) * h.restoreFactor ≤ 4 * flangeLossOf h m
      ∧ 4 * flangeLossOf h m
          < max (h.nominalThickness - m.left.thickness) (h.nominalThickness - m.right.thickness) * h.restoreFactor + 4
      ∧ (heightLossOf h m =
          if max m.left.height m.right.height ≤ h.nominalHeight then 0
          else 2 * (max m.left.height m.right.height - h.nominalHeight))
      ∧ (defectLossOf cleanUp m =
          if max m.left.defect m.right.defect = 0 then 0 else 2 * (max m.left.defect m.right.defect + cleanUp))
      ∧ minimumLossOf cleanUp = 2 * cleanUp
      ∧ (verdictOf h m = .accepted → realOwnLossOf h cleanUp m = 0)
      ∧ (verdictOf h m = .rejected →
          (∀ x ∈ [flangeLossOf h m, heightLossOf h m, defectLossOf cleanUp m, minimumLossOf cleanUp], x ≤ realOwnLossOf h cleanUp m)
            ∧ realOwnLossOf h cleanUp m
                ∈ [flangeLossOf h m, heightLossOf h m, defectLossOf cleanUp m, minimumLossOf cleanUp])

/-- What an assessment writes and hands on (R31, R39, R40, R41). -/
def Obligations.AssessmentWritesOwnNeedAndUnfit : Prop :=
  ∀ (s : State) (n : Nat) (m : Measured) (i : ProfileImage), (s.record n).measured = some m →
    s.validProfile (s.record n).profile = some i →
      let loss := realOwnLossOf i.header s.limits.cleanUp m.block
      let current := min m.block.left.diameter m.block.right.diameter
      ∃ a, s.assessment n = some a
        ∧ a.ownNeed = (if s.exempt n then current else current - loss)
        ∧ a.unfit = (s.exempt n && decide (0 < loss))
        ∧ a.handed = { ownNeed := a.ownNeed, exempt := s.exempt n, loss := if s.exempt n then 0 else loss }
        ∧ s.evaluateMeasured n =
            (s.setRecord n { s.record n with ownNeed := some a.ownNeed, unfit := a.unfit }).evaluate n a.handed
        ∧ ∀ d : Nat, s.evaluateOvercut n d =
            (s.setRecord n { s.record n with ownNeed := some d }).evaluate n { ownNeed := d, exempt := s.exempt n, loss := 0 }

/-! ## Planning -/

/-- The candidate target (R57, R58); a waived subject calls for no lowering (R58). -/
def Obligations.CandidateTargetIsTheSmallest : Prop :=
  ∀ (s : State) (n need : Nat),
    (if (s.record n).waived then
        some (s.candidate n need) = lowest [some need, (s.record n).target]
      else
        some (s.candidate n need) =
          lowest [some need, (s.record n).target, othersBound s n (s.bogieGroup n), othersBound s n (s.carGroup n)])
      ∧ (∀ old ∈ (s.record n).target, s.candidate n need ≤ old)
      ∧ ((s.record n).waived = true → ∀ t, s.lowerings n t = []
          ∧ ∀ h : Handed, (s.chosenObstacle n h t [] = none ↔ s.subjectObstacle n h t = none)
            ∧ ∀ o, s.chosenObstacle n h t [] = some o → o.1 = n)

/-- The cascade's closed form (R60): the subject's bogie partner at the smaller tolerance, the other bogie at the car's, lowerings in
ascending ordinal; and it stops (R59): afterwards no counted member of any group, the other bogie's group of the car among them, stands
above another of that group by more than its tolerance. Asked of the groups alone, so it holds of the state in which the cascade of a first
GAUGE REPORT is computed, whose subject is still ANNOUNCED (R108). -/
def Obligations.CascadeFollowsTheClosedFormAndStops : Prop :=
  ∀ (s : State) (n need : Nat) (gb gc : Group), s.GroupsSafe → (s.record n).waived = false →
    s.bogieGroup n = some gb → s.carGroup n = some gc →
      let t := s.candidate n need
      let ls := s.lowerings n t
      (∀ (m x : Nat), { ordinal := m, target := x } ∈ ls ↔
        m ∈ gc.members ∧ m ≠ n ∧ (s.record m).counted = true
          ∧ x = (if m ∈ gb.members then t + min gb.tolerance gc.tolerance else t + gc.tolerance)
          ∧ ∀ old ∈ (s.record m).target, x < old)
        ∧ ls.Pairwise (fun a b => a.ordinal < b.ordinal)
        ∧ ∀ g ∈ s.bogieGroups ++ s.carGroups, ∀ a ∈ g.members, ∀ b ∈ g.members,
            ∀ ta ∈ cascadeTarget s n t ls a, ∀ tb ∈ cascadeTarget s n t ls b, ta ≤ tb + g.tolerance

/-- Which records are obstacles, and which names the block (R61, R62). That the subject's own REOPEN LIMIT is named with that reason
even where EXEMPT MEMBER holds too is the model's reading (log 18). -/
def Obligations.ObstacleThatNamesTheBlock : Prop :=
  (∀ (s : State) (l : Lowering), let r := s.record l.ordinal
    s.memberObstacle l =
      if s.exempt l.ordinal then some (l.ordinal, .exemptMember)
      else if r.stage = .finished ∧ (∃ c ∈ r.current, l.target + s.limits.finishTol < c) ∧ r.reopenCount = s.limits.reopenLimit then
        some (l.ordinal, .reopenLimit)
      else if l.target < condemnDiameter s.limits r.cls then some (l.ordinal, .condemnLimit)
      else none)
    ∧ (∀ (s : State) (n t : Nat) (h : Handed), let r := s.record n
      let stays := r.hold = .free ∧ (h.loss = 0 ∨ h.exempt = true) ∧ ¬ ∃ c ∈ r.current, t + s.limits.finishTol < c
      (s.ownReopenLimit n h t = true ↔ r.stage = .finished ∧ ¬ stays ∧ r.reopenCount = s.limits.reopenLimit)
        ∧ s.subjectObstacle n h t =
          if s.exempt n = true ∧ ∃ old ∈ r.target, t < old then some (n, .exemptMember)
          else if s.ownReopenLimit n h t then some (n, .reopenLimit)
          else if t < condemnDiameter s.limits r.cls then some (n, .condemnLimit)
          else none)
    ∧ (∀ (s : State) (n t : Nat) (h : Handed) (ls : List Lowering),
      let found := (s.subjectObstacle n h t).toList ++ ls.filterMap s.memberObstacle
      (s.ownReopenLimit n h t = true → s.chosenObstacle n h t ls = some (n, .reopenLimit))
        ∧ (s.ownReopenLimit n h t = false →
            (s.chosenObstacle n h t ls = none ↔ found = [])
              ∧ ∀ o, s.chosenObstacle n h t ls = some o → o ∈ found ∧ ∀ o' ∈ found, o.1 ≤ o'.1))

/-- Steps 2 to 6 of an evaluation on its subject and its state: condemnation for own wear (R55, R56), the block (R62), or the applied
candidate (R63, R64, R65), whose reopened records are appended to the list in ascending ordinal and whose groups' floors are recomputed
(R51); and what a lowering does to a member (R63, R64). The clause on the other members asks for the laws of the groups alone, which the
arrival's own writes keep, so it holds at the first GAUGE REPORT of an ANNOUNCED record as well (R108). -/
def Obligations.EvaluationEndsInOneOfItsOutcomes : Prop :=
  (∀ (s : State) (n : Nat) (h : Handed), 1 ≤ n → n ≤ 64 →
    let r := s.record n
    let t := s.candidate n h.ownNeed
    let ls := s.lowerings n t
    (r.stage = .condemned → s.evaluate n h = s)
      ∧ (r.stage ≠ .condemned → h.exempt = false → h.ownNeed < condemnDiameter s.limits r.cls →
          s.evaluate n h = s.condemn n .ownWear)
      ∧ (r.stage ≠ .condemned → (h.exempt = true ∨ condemnDiameter s.limits r.cls ≤ h.ownNeed) →
          (∀ o, s.chosenObstacle n h t ls = some o →
            s.evaluate n h =
              unlisted ((s.clearHolderGrant n).setRecord n
                { r with stage := .blocked, blocked := some { heldBack := t, reason := o.2, blocker := o.1 }, verified := false }) n)
            ∧ (s.chosenObstacle n h t ls = none →
              let u := s.evaluate n h
              let finished := r.hold = .free ∧ (h.loss = 0 ∨ h.exempt = true) ∧ ¬ ∃ c ∈ r.current, t + s.limits.finishTol < c
              u = { s with
                  records := u.records, reopenList := u.reopenList
                  bogieGroups := refloored u (n :: ls.map (fun l => l.ordinal)) s.bogieGroups
                  carGroups := refloored u (n :: ls.map (fun l => l.ordinal)) s.carGroups }
                ∧ u.record n =
                  { r with
                    target := some t, blocked := none
                    verified := r.verified && (r.hold == .free || r.target == some t)
                    stage := if finished then .finished else .planned
                    reopenCount := if r.stage = .finished ∧ ¬ finished then r.reopenCount + 1 else r.reopenCount
                    passesDone := if r.stage = .finished ∧ ¬ finished then 0 else r.passesDone }
                ∧ u.reopenList =
                    (s.reopenList ++ ordinals.filter (fun m => (s.record m).stage == .finished && (u.record m).stage == .planned)).filter
                      (fun m => (u.record n).stage != .finished || m != n)
                ∧ (s.GroupsSafe → ∀ m ∈ ordinals, m ≠ n → u.record m =
                    match ls.find? (fun l => l.ordinal == m) with
                    | none => s.record m
                    | some l => (s.record m).lowered s.limits l.target))))
    ∧ (∀ (v : LimitValues) (r : Record) (t : Nat), let beyond := ∃ c ∈ r.current, t + v.finishTol < c
      (r.lowered v t).target = some t
        ∧ (r.stage = .finished → beyond →
            r.lowered v t = { r with
              target := some t, verified := r.verified && r.hold == .free, blocked := (r.lowered v t).blocked,
              stage := .planned, reopenCount := r.reopenCount + 1, passesDone := 0 })
        ∧ (r.stage ≠ .finished ∨ ¬ beyond →
            r.lowered v t = { r with
              target := some t, verified := r.verified && r.hold == .free,
              blocked := r.blocked.map (fun b => { b with heldBack := min b.heldBack t }) }))

/-- A target, once set, is never raised while a visit is open (R9). -/
def Obligations.TargetIsNeverRaised : Prop :=
  ∀ (s t : State) (n old : Nat), s.Safe → step s = .next t → t.visit ≠ .noVisit → (s.record n).target = some old →
    ∃ new, (t.record n).target = some new ∧ new ≤ old

/-- REPLAN (R74, R78). That WRONG STAGE comes before HELD ELSEWHERE on a
held record too is the model's reading of R74 beside R79 and R121 (log 34). -/
def Obligations.ReplanTable : Prop :=
  ∀ (s : State) (n : Nat), s.phase = .running →
    exec (.replan n) s =
      if n < 1 ∨ 64 < n then replied s (.replan n) .badOrdinal []
      else if (s.record n).stage ≠ .planned ∧ (s.record n).stage ≠ .finished ∧ (s.record n).stage ≠ .blocked then
        replied s (.replan n) .wrongStage []
      else if (s.record n).hold ≠ .free then replied s (.replan n) .heldElsewhere []
      else replied (State.flagStarts s (s.evaluateMeasured n)) (.replan n) .done ((s.evaluateMeasured n).snapshot n)

/-- RULE ACCEPT DEVIATION (R74, R75). That WRONG STAGE comes before HELD ELSEWHERE on a
held record too is the model's reading of R74 beside R79 and R121 (log 34). -/
def Obligations.AcceptDeviationTable : Prop :=
  ∀ (s : State) (n : Nat), s.phase = .running →
    let r := s.record n
    let target := match r.blocked with
      | some b => some b.heldBack
      | none => r.target
    let done := ∃ c ∈ r.current, ∃ t ∈ target, r.ownNeed = some c ∧ c ≤ t + s.limits.finishTol
    let r' := { r with target := target, waived := true, blocked := none, stage := if done then .finished else .planned }
    let u := (if done then unlisted (s.setRecord n r') n else s.setRecord n r').refloor [n]
    exec (.ruleAcceptDeviation n) s =
      if n < 1 ∨ 64 < n then replied s (.ruleAcceptDeviation n) .badOrdinal []
      else if r.stage ≠ .blocked then replied s (.ruleAcceptDeviation n) .wrongStage []
      else if r.hold ≠ .free then replied s (.ruleAcceptDeviation n) .heldElsewhere []
      else replied (State.flagStarts s u) (.ruleAcceptDeviation n) .done (snapshot n r')

/-- RULE CONDEMN (R74, R77), and what a condemnation writes by any cause (R12, R19, R24, R51, R56, R128). That WRONG STAGE comes before HELD
ELSEWHERE on a held record too is the model's reading of R74 beside R79 and R121 (log 34). -/
def Obligations.RuleCondemnTable : Prop :=
  (∀ (s : State) (n : Nat), s.phase = .running →
    exec (.ruleCondemn n) s =
      if n < 1 ∨ 64 < n then replied s (.ruleCondemn n) .badOrdinal []
      else if (s.record n).stage ≠ .planned ∧ (s.record n).stage ≠ .finished ∧ (s.record n).stage ≠ .blocked then
        replied s (.ruleCondemn n) .wrongStage []
      else if (s.record n).hold ≠ .free then replied s (.ruleCondemn n) .heldElsewhere []
      else replied (State.flagStarts s (s.condemn n .ruling)) (.ruleCondemn n) .done ((s.condemn n .ruling).snapshot n))
    ∧ (∀ (s : State) (n : Nat) (cause : CondemnCause), 1 ≤ n → n ≤ 64 →
      let u := s.condemn n cause
      u = { unlisted ((s.clearHolderGrant n).setRecord n
              { s.record n with stage := .condemned, condemnCause := some cause, blocked := none, verified := false }) n with
              bogieGroups := refloored u [n] s.bogieGroups, carGroups := refloored u [n] s.carGroups, attention := u.attention }
        ∧ (∀ k : Source, u.source k = if k = .condemned then { s.source k with flag := true } else s.source k))

/-! ## Visits -/

/-- OPEN VISIT (R83). -/
def Obligations.OpenVisitTable : Prop :=
  ∀ (s : State) (number : Nat) (code : List Byte), s.phase = .running →
    let i := Instr.openVisit number code
    exec i s =
      if s.visit ≠ .noVisit then replied s i .visitOpen []
      else if s.catalogue ≠ .closed then replied s i .catalogueOpen []
      else if s.statusOf 16 ≠ .valid then replied s i .noLimits []
      else if number = 0 ∨ ∃ b ∈ code, ¬ ((48 ≤ b.toNat ∧ b.toNat ≤ 57) ∨ (65 ≤ b.toNat ∧ b.toNat ≤ 90) ∨ b.toNat = 32 ∨ b.toNat = 45) then
        replied s i .outOfRange []
      else replied { s with visit := .opened { number := number, trainCode := code }, window1 := none, window2 := none } i .done []

/-- LOAD CONSIST (R5, R17, R48, R49, R85, R86, R87). -/
def Obligations.LoadConsistTable : Prop :=
  ∀ (s : State) (entries : List CarEntry), s.phase = .running →
    let i := Instr.loadConsist entries
    (s.visit = .noVisit → exec i s = replied s i .noVisit [])
      ∧ (∀ id cars, s.visit = .loaded id cars → exec i s = replied s i .alreadySet [])
      ∧ (∀ id, s.visit = .opened id →
        (entries.length < 1 ∨ 16 < entries.length ∨ carsOfEntries entries = none → exec i s = replied s i .outOfRange [])
          ∧ (∀ cars, 1 ≤ entries.length → entries.length ≤ 16 → carsOfEntries entries = some cars →
            (∀ k c, cars[k]? = some c → s.statusOf c.profile ≠ .valid → (∀ j < k, ∀ d ∈ cars[j]?, s.statusOf d.profile = .valid) →
              exec i s = replied s i .profileUnusable (be 1 (k + 1)))
              ∧ ((∀ c ∈ cars, s.statusOf c.profile = .valid) →
                (∀ k c, cars[k]? = some c → s.classesAdmitted c = false → (∀ j < k, ∀ d ∈ cars[j]?, s.classesAdmitted d = true) →
                  exec i s = replied s i .classMismatch (be 1 (k + 1)))
                  ∧ ((∀ c ∈ cars, s.classesAdmitted c = true) → ∃ u : State,
                    exec i s = replied u i .done []
                      ∧ u = { s with
                          visit := .loaded id cars, records := u.records, reopenList := [], window1 := none, window2 := none
                          bogieGroups := (List.range (2 * cars.length)).map (fun k =>
                            let cls := ((cars[k / 2]?).map (fun c => if k % 2 = 0 then c.class1 else c.class2)).getD .trailer
                            { kind := .bogie, index := k + 1, cls := cls, members := [2 * k + 1, 2 * k + 2], floor := none
                              tolerance := if cls = .motor then s.limits.bogieTolMotor else s.limits.bogieTolTrailer })
                          carGroups := (List.range cars.length).map (fun k =>
                            let cls := ((cars[k]?).map (fun c =>
                              if c.class1 = .motor ∨ c.class2 = .motor then BogieClass.motor else .trailer)).getD .trailer
                            { kind := .car, index := k + 1, cls := cls, floor := none
                              members := [4 * k + 1, 4 * k + 2, 4 * k + 3, 4 * k + 4]
                              tolerance := if cls = .motor then s.limits.carTolMotor else s.limits.carTolTrailer }) }
                      ∧ ∀ n, 1 ≤ n → n ≤ 64 → u.record n =
                          match cars[(n - 1) / 4]? with
                          | none => s.record n
                          | some c =>
                            { Record.vacant with
                              stage := .announced
                              position := some
                                { car := carOf n, bogie := bogieOf n, axle := axleOf n, profile := c.profile
                                  cls := if bogieOf n = 1 then c.class1 else c.class2 } }))))
      ∧ (∀ c : BogieClass, applicabilityAdmits 1 c = (c == .motor) ∧ applicabilityAdmits 2 c = (c == .trailer)
          ∧ applicabilityAdmits 3 c = true)

/-- SET WINDOW (R90), and which ordinals are exempt (R89). -/
def Obligations.SetWindowTable : Prop :=
  (∀ (s : State) (w base limit : Nat), s.phase = .running →
    let i := Instr.setWindow w base limit
    exec i s =
      if s.isLoaded = false then replied s i .notLoaded []
      else if w < 1 ∨ 2 < w ∨ base < 1 ∨ 64 < base ∨ limit < 1 ∨ 64 < limit then replied s i .outOfRange []
      else if w = 1 then replied { s with window1 := some { base := base, limit := limit } } i .done []
      else replied { s with window2 := some { base := base, limit := limit } } i .done [])
    ∧ (∀ (s : State) (n : Nat), s.exempt n = true ↔
        (∃ w ∈ s.window1, w.base ≤ n ∧ n ≤ w.limit) ∨ ∃ w ∈ s.window2, w.base ≤ n ∧ n ≤ w.limit)

/-- CLOSE VISIT (R94, R95, R96, R100). The wire form of the values in the answer is in part the model's (log 16). -/
def Obligations.CloseVisitTable : Prop :=
  ∀ (s : State) (kind : Nat), s.phase = .running →
    let i := Instr.closeVisit kind
    (s.visit.identity = none → exec i s = replied s i .noVisit [])
      ∧ (∀ id, s.visit.identity = some id → exec i s =
          if kind ≠ 1 ∧ kind ≠ 2 then replied s i .outOfRange []
          else if ∃ n ∈ ordinals, (s.record n).hold ≠ .free then replied s i .holdsPresent []
          else if kind = 1 ∧ ∃ n ∈ ordinals,
              (s.record n).stage = .announced ∨ (s.record n).stage = .planned ∨ (s.record n).stage = .blocked then
            replied s i .unsettled []
          else
            replied { s with
                visit := .noVisit, records := Vector.replicate 64 Record.vacant, bogieGroups := [], carGroups := [], serialMap := [],
                reopenList := [], window1 := none, window2 := none, gaugeCounts := { accepted := 0, refused := 0 }
                alignment := { gauge := none, stationA := none, stationB := none } } i .done
              (be 2 id.number ++ id.trainCode ++ be 1 (s.stageCount .vacant) ++ be 1 (s.stageCount .announced)
                ++ be 1 (s.stageCount .planned) ++ be 1 (s.stageCount .finished) ++ be 1 (s.stageCount .blocked)
                ++ be 1 (s.stageCount .condemned)))
      ∧ s.stageCount .vacant + s.stageCount .announced + s.stageCount .planned + s.stageCount .finished + s.stageCount .blocked
          + s.stageCount .condemned = 64

/-! ## The gauge -/

/-- GAUGE REPORT (R82, R88, R100 to R106). The wire form of the values in the answer is in part the model's (log 16); that a report refused NOT
LOADED is counted is its reading of R100 and R101 beside R88 (log 31). -/
def Obligations.GaugeReportTable : Prop :=
  ∀ (s : State) (f : InboxFrame), s.nextRequest .gauge .gaugeReport = some f →
    let n := field f.payload 0 1
    let m := measurementAt f.payload 1
    let serial := if f.payload.length = 27 then some (field f.payload 23 4) else none
    let r := s.record n
    let bump (k : Nat) := if k < 255 then k + 1 else 255
    let refused : State := { s with gaugeCounts := { accepted := s.gaugeCounts.accepted, refused := bump s.gaugeCounts.refused } }
    let u : State :=
      { s.setRecord n { r with
          measured := some { block := m, source := .gauge }, doubtful := false
          serial := match r.serial with
            | some x => some x
            | none => serial } with
        gaugeCounts := { accepted := bump s.gaugeCounts.accepted, refused := s.gaugeCounts.refused }
        serialMap := match r.serial, serial with
          | none, some x => serialInsert x n s.serialMap
          | _, _ => s.serialMap }
    s.gaugeCounts.accepted ≤ 255 → s.gaugeCounts.refused ≤ 255 →
    exec .gaugeReport s =
      if s.isLoaded = false then answered refused .gauge f .notLoaded []
      else if s.alignment.gauge ≠ some n then answered refused .gauge f .notAligned (be 1 (s.alignment.gauge.getD 0))
      else if r.stage = .condemned then answered refused .gauge f .wrongStage []
      else if m.inRange = false ∨ serial = some 0 then answered refused .gauge f .outOfRange []
      else if serial ≠ none ∧ r.serial ≠ none ∧ serial ≠ r.serial then
        answered (refused.flag .serialConflict) .gauge f .serialMismatch (be 4 (r.serial.getD 0))
      else if serial ≠ none ∧ ∃ k ∈ serial.bind (serialOrdinal s.serialMap), k ≠ n then
        answered (refused.flag .serialConflict) .gauge f .duplicateSerial
          (be 1 ((serial.bind (serialOrdinal s.serialMap)).getD 0))
      else
        let v := u.evaluateMeasured n
        let q := v.record n
        answered (State.flagStarts s v) .gauge f .done
          (be 1 n ++ be 1 q.stage.code ++ bit q.target.isSome ++ be 3 (q.target.getD 0) ++ be 3 (q.ownNeed.getD 0) ++ bit q.unfit
            ++ bit q.blocked.isSome ++ be 3 ((q.blocked.map (fun b => b.heldBack)).getD 0))

/-! ## The stations -/

/-- CLAIM (R118, R119, R120). The wire form of the values in the answer is in part the model's (log 16). -/
def Obligations.ClaimTable : Prop :=
  ∀ (s : State) (st : StationId) (f : InboxFrame), s.nextRequest (stationLink st) .claim = some f →
    let n := field f.payload 0 1
    let c := s.station st
    let l := stationLink st
    let r := s.record n
    let u := s.setStation st { c with cursor := none }
    exec (.claim st) s =
      if s.moveState ≠ .still then answered u l f .moving []
      else if s.isLoaded = false then answered u l f .notLoaded []
      else if s.alignedAt st ≠ some n then answered u l f .notAligned (be 1 ((s.alignedAt st).getD 0))
      else if c.held ≠ none then answered u l f .alreadyHolding (be 1 (c.held.getD 0))
      else if r.stage ≠ .planned then answered u l f .wrongStage (be 1 r.stage.code)
      else if s.exempt n then answered u l f .exempt []
      else
        answered
          (unlisted ((s.setStation st { c with cursor := none, held := some n }).setRecord n
            { r with hold := .clamped, holder := some st, verified := false }) n)
          l f .done (be 1 n ++ be 3 (r.target.getD 0) ++ be 3 (r.current.getD 0) ++ be 1 r.passesDone ++ bit r.doubtful)

/-- GRANT PASS (R118, R122, R123). -/
def Obligations.GrantPassTable : Prop :=
  ∀ (s : State) (st : StationId) (f : InboxFrame), s.nextRequest (stationLink st) .grantPass = some f →
    let depth := field f.payload 0 2
    let c := s.station st
    let l := stationLink st
    let u := s.setStation st { c with cursor := none }
    (c.held = none → exec (.grantPass st) s = answered u l f .notHolding [])
      ∧ (∀ n, c.held = some n → let r := s.record n
        exec (.grantPass st) s =
          if r.stage ≠ .planned then answered u l f .wrongStage []
          else if r.doubtful then answered u l f .doubtful []
          else if c.passInFlight then answered u l f .passInFlight []
          else if s.moveState ≠ .still then answered u l f .moving []
          else if s.exempt n then answered u l f .exempt []
          else if r.passesDone = s.limits.maxPasses then answered u l f .passLimit []
          else if depth < 1 ∨ s.limits.maxPassDepth < depth then answered u l f .depthTooLarge []
          else if ∃ d ∈ r.current, ∃ t ∈ r.target, (d : Int) - 2 * depth < (t : Int) - s.limits.undercutTol then
            answered u l f .belowTarget []
          else answered (s.setStation st { c with cursor := none, grant := some depth }) l f .done
            (be 2 depth ++ be 3 (r.current.getD 0 - 2 * depth)))

/-- START PASS (R118, R124, R131). -/
def Obligations.StartPassTable : Prop :=
  ∀ (s : State) (st : StationId) (f : InboxFrame), s.nextRequest (stationLink st) .startPass = some f →
    let c := s.station st
    let l := stationLink st
    let u := s.setStation st { c with cursor := none }
    (c.held = none → exec (.startPass st) s = answered u l f .notHolding [])
      ∧ (∀ n, c.held = some n → c.grant = none → exec (.startPass st) s = answered u l f .noGrant [])
      ∧ (∀ n depth, c.held = some n → c.grant = some depth →
        exec (.startPass st) s =
          if s.moveState ≠ .still then answered u l f .moving []
          else
            answered
              ((s.setStation st { c with cursor := none, grant := none, passInFlight := true, watch := s.limits.watchReload }).setRecord n
                { s.record n with hold := .cutting })
              l f .done (be 2 depth ++ be 2 s.limits.watchReload))

/-- PASS DONE (R7, R118, R125 to R130). The wire form of the values in the answer is in part the model's (log 16). -/
def Obligations.PassDoneTable : Prop :=
  ∀ (s : State) (st : StationId) (f : InboxFrame), s.nextRequest (stationLink st) .passDone = some f →
    let left := field f.payload 0 3
    let right := field f.payload 3 3
    let d := min left right
    let c := s.station st
    let l := stationLink st
    let refused := s.setStation st { c with cursor := none }
    (c.held = none → exec (.passDone st) s = answered refused l f .notHolding [])
      ∧ (∀ n, c.held = some n → 1 ≤ n → n ≤ 64 →
        let r := s.record n
        let u := (s.setStation st { c with cursor := none, passInFlight := false, suspended := false }).setRecord n
          { r with
            hold := .clamped, passesDone := r.passesDone + 1, verified := false
            measured := r.measured.map (fun m =>
              { block := { left := { m.block.left with diameter := left }, right := { m.block.right with diameter := right } }
                source := match st with
                  | .a => .stationA
                  | .b => .stationB }) }
        let worn := d < condemnDiameter s.limits r.cls
        let under := ∃ t ∈ r.target, (d : Int) < (t : Int) - s.limits.undercutTol
        let v := if worn then (u.condemn n .overcut).flag .overcut
          else if under then (u.flag .overcut).evaluateOvercut n d else u
        let q := v.record n
        exec (.passDone st) s =
          if c.passInFlight = false then answered refused l f .noPass []
          else if left < 60000 ∨ 125000 < left ∨ right < 60000 ∨ 125000 < right then answered refused l f .outOfRange []
          else
            answered (State.flagStarts s v) l f .done
              (be 1 n ++ be 1 q.passesDone ++ be 1 (s.limits.maxPasses - q.passesDone) ++ be 3 d ++ be 3 (q.target.getD 0)
                ++ be 1 q.stage.code ++ bit (decide (worn ∨ under))
                ++ bit (decide (q.stage = .planned ∧ ∃ t ∈ q.target, t + s.limits.finishTol < d))))

/-- VERIFY (R118, R139, R140) and the verification test (R44). The wire form of the values in the answer is in part the model's (log
16). -/
def Obligations.VerifyTable : Prop :=
  ∀ (s : State) (st : StationId) (f : InboxFrame), s.nextRequest (stationLink st) .verify = some f →
    let m := measurementAt f.payload 0
    let c := s.station st
    let l := stationLink st
    let refused := s.setStation st { c with cursor := none }
    (c.held = none → exec (.verify st) s = answered refused l f .notHolding [])
      ∧ (∀ n (i : ProfileImage), c.held = some n → 1 ≤ n → n ≤ 64 → s.validProfile (s.record n).profile = some i →
        let u := (s.setStation st { c with cursor := none, grant := none }).setRecord n
          { s.record n with
            doubtful := false
            measured := some
              { block := m
                source := match st with
                  | .a => .stationA
                  | .b => .stationB } }
        let w := u.evaluateMeasured n
        let q := w.record n
        let verified := q.stage = .planned ∧ verdictOf i.header m = .accepted
          ∧ (∃ t ∈ q.target, (t : Int) - s.limits.undercutTol ≤ m.left.diameter ∧ m.left.diameter ≤ t + s.limits.finishTol
              ∧ (t : Int) - s.limits.undercutTol ≤ m.right.diameter ∧ m.right.diameter ≤ t + s.limits.finishTol)
          ∧ m.left.diameter - m.right.diameter ≤ s.limits.axleTol ∧ m.right.diameter - m.left.diameter ≤ s.limits.axleTol
        let v := w.setRecord n { q with verified := decide verified }
        exec (.verify st) s =
          if c.passInFlight then answered refused l f .passInFlight []
          else if m.inRange = false then answered refused l f .outOfRange []
          else
            answered (State.flagStarts s v) l f .done
              (be 1 q.stage.code ++ be 3 (q.target.getD 0) ++ be 3 (q.ownNeed.getD 0) ++ bit (decide verified)
                ++ bit q.blocked.isSome ++ be 3 ((q.blocked.map (fun b => b.heldBack)).getD 0)))

/-- RELEASE (R118, R142, R143, R154). -/
def Obligations.ReleaseTable : Prop :=
  ∀ (s : State) (st : StationId) (f : InboxFrame), s.nextRequest (stationLink st) .release = some f →
    let c := s.station st
    let l := stationLink st
    let refused := s.setStation st { c with cursor := none }
    (c.held = none → exec (.release st) s = answered refused l f .notHolding [])
      ∧ (∀ n, c.held = some n → 1 ≤ n → n ≤ 64 →
        let r := s.record n
        let finished := r.stage = .planned ∧ r.verified = true
        let r' := { r with
          hold := .free, holder := none, verified := false, stage := if finished then .finished else r.stage
          blocked := if finished then none else r.blocked }
        let u := (s.setStation st { c with cursor := none, held := none, grant := none }).setRecord n r'
        let v := freed (if r'.stage = .finished then unlisted u n else u)
        exec (.release st) s =
          if c.passInFlight then answered refused l f .passInFlight []
          else answered (State.flagStarts s v) l f .done (be 1 n ++ be 1 r'.stage.code))

/-- READ CONTOUR and CONTOUR NEXT (R82, R144, R145). The wire form of the values in the answer is in part the model's (log 16), and so is how
it shows that no points remain (log 33); that CONTOUR NEXT is refused NO CURSOR outside a loaded visit too is its reading of R145 beside R82
(log 30). -/
def Obligations.ContourTables : Prop :=
  ∀ (s : State) (st : StationId) (f : InboxFrame),
    let c := s.station st
    let l := stationLink st
    let closed := s.setStation st { c with cursor := none }
    let from_ (k : Nat) (i : ProfileImage) : List Point := ((i.slots.toList.take i.header.pointCount).drop k).take 8
    let body (p k : Nat) (i : ProfileImage) : List Byte :=
      be 1 p ++ be 1 i.header.pointCount ++ be 1 k ++ be 1 (from_ k i).length ++ (from_ k i).flatMap pointBytes
    let after (p k : Nat) (i : ProfileImage) : Option Cursor :=
      if k + 8 < i.header.pointCount then some { profile := p, next := k + 8 } else none
    (s.nextRequest l .readContour = some f →
      (c.held = none → exec (.readContour st) s = answered closed l f .notHolding [])
        ∧ (∀ n i, c.held = some n → s.validProfile (s.record n).profile = some i →
          let k := field f.payload 0 1
          let p := (s.record n).profile
          exec (.readContour st) s =
            if i.header.pointCount ≤ k then answered closed l f .outOfRange []
            else answered (s.setStation st { c with cursor := after p k i }) l f .done (body p k i)))
      ∧ (s.nextRequest l .contourNext = some f →
        (c.cursor = none → exec (.contourNext st) s = answered s l f .noCursor [])
          ∧ (∀ k i, c.cursor = some k → s.validProfile k.profile = some i →
            exec (.contourNext st) s =
              answered (s.setStation st { c with cursor := after k.profile k.next i }) l f .done (body k.profile k.next i)))

/-- HALT PASS and RESUME PASS (R135, R136, R138). -/
def Obligations.HaltAndResumePass : Prop :=
  ∀ (s : State) (code : Nat), s.phase = .running →
    (stationOf code = none → exec (.haltPass code) s = replied s (.haltPass code) .outOfRange []
      ∧ exec (.resumePass code) s = replied s (.resumePass code) .outOfRange [])
      ∧ (∀ st, stationOf code = some st → let c := s.station st
        (c.enabled = false → exec (.haltPass code) s = replied s (.haltPass code) .disabled []
          ∧ exec (.resumePass code) s = replied s (.resumePass code) .disabled [])
          ∧ (c.enabled = true → (c.passInFlight = false ∨ c.suspended = true) →
            exec (.haltPass code) s = replied s (.haltPass code) .noPass [])
          ∧ (c.enabled = true → (c.passInFlight = false ∨ c.suspended = false) →
            exec (.resumePass code) s = replied s (.resumePass code) .noPass [])
          ∧ (∀ n, c.held = some n → c.enabled = true → c.passInFlight = true →
            (c.suspended = false → exec (.haltPass code) s =
              replied (((s.setStation st { c with suspended := true }).setRecord n { s.record n with hold := .suspended }).setLink
                (stationLink st) ((s.link (stationLink st)).order .halt n)) (.haltPass code) .done [])
              ∧ (c.suspended = true → exec (.resumePass code) s =
                replied (((s.setStation st { c with suspended := false }).setRecord n { s.record n with hold := .cutting }).setLink
                  (stationLink st) ((s.link (stationLink st)).order .resume n)) (.resumePass code) .done [])))

/-- The pulses and ticks that count the pass watches, and the expiry of a watch (R131, R132, R133, R138). The expiry has its own command
beside the pulse or tick that contains it (the model's choice, log 9). The model's choices besides: the tick takes A before B (log 23),
a watch counts while it is not 0 (log 27), the abandoned record's verified mark (log 28). -/
def Obligations.WatchCountsDownAndExpires : Prop :=
  (∀ (s : State) (st : StationId), exec (.revPulse st) s = .next (if s.limits.watchMode = 2 then s else countedDown s st))
    ∧ (∀ s : State, exec .timebaseTick s = .next (if s.limits.watchMode = 2 then countedDown (countedDown s .a) .b else s))
    ∧ (∀ (s : State) (st : StationId) (n : Nat), let c := s.station st
      c.held = some n → c.passInFlight = true → c.suspended = false → c.watch = 1 →
        let l := stationLink st
        let t := (((s.setStation st { c with passInFlight := false, suspended := false, grant := none, watch := 0 }).setRecord n
          { s.record n with hold := .clamped, doubtful := true, verified := false }).flag .passOverrun).setLink l
            ((s.link l).order .abandon n)
        exec (.passWatchExpiry st) s = .next t ∧ s.expire st = t)
    ∧ (∀ (s : State) (st : StationId), let c := s.station st
      (c.passInFlight = false ∨ c.suspended = true ∨ c.watch ≠ 1) → exec (.passWatchExpiry st) s = .next s)

/-! ## Motion -/

/-- The edges of MOVE REQUEST (R152, R155, R158). The model's choices: an edge to the level the line has changes nothing (log 2), edges
before start-up ends are remembered as the level (log 25). -/
def Obligations.MoveRequestEdges : Prop :=
  (∀ s : State, s.phase = .running → s.moveState = .still → s.moveRequest = false →
    exec .moveRequestRise s = .next
      (if s.stationA.held = none ∧ s.stationB.held = none then granted { s with moveRequest := true }
        else State.flag { s with moveRequest := true, moveState := .pending } .moveWaiting))
    ∧ (∀ s : State, s.phase = .running → s.moveRequest = true →
      exec .moveRequestFall s = .next { s with moveRequest := false, moveState := .still })
    ∧ (∀ s : State, s.phase ≠ .running →
      exec .moveRequestRise s = .next { s with moveRequest := true } ∧ exec .moveRequestFall s = .next { s with moveRequest := false })
    ∧ (∀ s : State, (s.moveRequest = true → exec .moveRequestRise s = .next s)
      ∧ (s.moveRequest = false → exec .moveRequestFall s = .next s) ∧ (s.moveGrant = true ↔ s.moveState = .granted))

/-- ALIGNED (R160, R161). -/
def Obligations.AlignedTable : Prop :=
  ∀ (s : State) (f : InboxFrame), s.nextRequest .mover .aligned = some f →
    let ord (k : Nat) : Option Nat := if field f.payload k 1 = 0 then none else some (field f.payload k 1)
    let a : Machine.Alignment := { gauge := ord 0, stationA := ord 1, stationB := if s.stationMode = .single then none else ord 2 }
    let present := a.gauge.toList ++ a.stationA.toList ++ a.stationB.toList
    exec .aligned s =
      if s.moveState ≠ .still then answered s .mover f .moving (be 1 s.moveState.code)
      else if s.isLoaded = false then answered s .mover f .notLoaded []
      else if s.stationA.held ≠ none ∨ s.stationB.held ≠ none then
        answered s .mover f .holdsPresent (be 1 (s.stationA.held.getD 0) ++ be 1 (s.stationB.held.getD 0))
      else if (∃ n ∈ present, s.recordCount < n) ∨ ¬ present.Nodup then answered s .mover f .outOfRange []
      else
        answered { s with alignment := a, gaugeCounts := { accepted := 0, refused := 0 } } .mover f .done
          (be 1 (a.gauge.getD 0) ++ be 1 (a.stationA.getD 0) ++ be 1 (a.stationB.getD 0))

/-! ## Cell links -/

/-- The disposition of an arriving frame, the eight rows of R170 with R167, R169, R171, R172, R176; and what the receiver of a link makes of
its bytes (R166, R168): bytes before a start marker are discarded; a whole frame in time arrives; a length above 200 or a late byte gives
the frame up, and a late byte is examined afresh; a frame partly received when RESET arrives is lost, and no byte is taken until reset
ends. That a frame is lost while RESET is asserted is the model's reading (log 13), the receiver as a function of its events its choice
(log 11). -/
def Obligations.FrameArrivalRows : Prop :=
  (∀ (s : State) (l : LinkId) (f : CellFrame), let c := s.link l
    exec (.cellFrameArrival l f) s = .next
      (if s.phase = .resetAsserted then s
      else if f.check ≠ crc (f.kind :: f.tag :: BitVec.ofNat 8 f.payload.length :: f.payload) then
        if c.state = .disabled ∨ s.phase = .starting then s else faulted s l .malformed
      else if c.state = .disabled then interfaced s l f (be 1 Reason.disabled.code)
      else if s.phase = .starting then interfaced s l f (be 1 Reason.starting.code)
      else
        match requestKindOf f.kind with
        | none => interfaced (faulted s l .unknown) l f (be 1 Reason.unknown.code)
        | some k =>
          if l.admits k = false then interfaced (faulted s l .unknown) l f (be 1 Reason.unknown.code)
          else if k.fits f.payload.length = false then faulted s l .malformed
          else if c.state ≠ .up then
            if k ≠ .hello then interfaced s l f (be 1 Reason.linkReset.code)
            else if field f.payload 0 1 ≠ linkNumber l then interfaced s l f (be 1 Reason.wrongRole.code)
            else
              interfaced ((s.setLink l { c with state := .up, fault := .none }).flag .linkUp) l f
                (be 1 Reason.done.code ++ be 1 (linkNumber l) ++ be 1 (linkNumber l))
          else if 4 ≤ c.inbox.length then interfaced (faulted s l .inboxFull) l f (be 1 Reason.inboxFull.code)
          else
            s.setLink l { c with
              inbox := c.inbox ++ [{ kind := k, tag := f.tag.setWidth 4, payload := f.payload, answered := false }] }))
    ∧ (∀ (s : State) (l : LinkId) (why : DiscardCause),
      exec (.malformedFrameDiscarded l why) s = .next
        (if s.phase = .running ∧ (s.link l).state ≠ .disabled then faulted s l .malformed else s))
    ∧ (∀ (l : LinkId) (late : Bool) (b : Byte) (rest : List LineEvent), b ≠ 195#8 →
      Receiver.run l .hunting (.byte late b :: rest) = Receiver.run l .hunting rest)
    ∧ (∀ (l : LinkId) (late : Bool) (kind tag length : Byte) (rest : List LineEvent), 200 < length.toNat →
      Receiver.run l .hunting (.byte late 195#8 :: (inTime [kind, tag, length] ++ rest))
        = .malformedFrameDiscarded l .lengthTooGreat :: Receiver.run l .hunting rest)
    ∧ (∀ (l : LinkId) (late : Bool) (f : CellFrame) (rest : List LineEvent), f.payload.length ≤ 200 →
      let frame := [f.kind, f.tag, BitVec.ofNat 8 f.payload.length] ++ f.payload ++ be 2 f.check.toNat
      Receiver.run l .hunting (.byte late 195#8 :: (inTime frame ++ rest)) = .cellFrameArrival l f :: Receiver.run l .hunting rest
        ∧ ∀ k < frame.length,
            (∀ b : Byte, Receiver.run l .hunting (.byte late 195#8 :: (inTime (frame.take k) ++ .byte true b :: rest))
              = .malformedFrameDiscarded l .byteLate :: Receiver.run l .hunting (.byte true b :: rest))
            ∧ ∀ lost : List (Bool × Byte),
              Receiver.run l .hunting (.byte late 195#8 :: (inTime (frame.take k)
                  ++ .reset :: (lost.map (fun e => LineEvent.byte e.1 e.2) ++ .resetEnd :: rest)))
                = Receiver.run l .hunting rest)

/-- The start and the end of a transmission, orders and interface answers in the outgoing list (R171, R174, R178), and the layout of a frame
as sent (R168, R216). The model's
choices: the mark of the frame in transmission (log 26), an end without a transmission changes nothing (log 2). -/
def Obligations.OutgoingListIsSentInOrder : Prop :=
  (∀ (s : State) (l : LinkId), exec (.transmissionStart l) s = .next
    (if (s.link l).outgoing = [] then s else s.setLink l { s.link l with transmitting := true }))
    ∧ (∀ (s : State) (l : LinkId) (g : OutFrame) (rest : List OutFrame), (s.link l).transmitting = true →
      (s.link l).outgoing = g :: rest →
        exec (.transmissionEnd l) s = .next (s.setLink l { s.link l with
          outgoing := rest, transmitting := false
          inbox := if g.origin = .inboxAnswer then (s.link l).inbox.eraseP (fun f => f.answered) else (s.link l).inbox }))
    ∧ (∀ (s : State) (l : LinkId), (s.link l).transmitting = false → exec (.transmissionEnd l) s = .next s)
    ∧ (∀ (c : LinkContext) (o : Order) (n : Nat),
      let new : OutFrame := { origin := .order, kind := o.code, tag := 0#4, payload := be 1 n }
      (c.waiting .order < 4 → c.order o n = { c with outgoing := c.outgoing ++ [new] })
        ∧ (4 ≤ c.waiting .order → ∃ front lost back, c.outgoing = front ++ lost :: back ∧ lost.origin = .order
          ∧ (c.transmitting = true → front ≠ [])
          ∧ (∀ g ∈ if c.transmitting then front.tail else front, g.origin ≠ .order)
          ∧ c.order o n = { c with outgoing := front ++ back ++ [new] }))
    ∧ (∀ g : OutFrame,
      let covered := [g.kind, g.tag.setWidth 8, BitVec.ofNat 8 g.payload.length] ++ g.payload
      g.bytes = [195#8] ++ covered ++ be 2 (crc covered).toNat)

/-- The oldest untaken frame is answered under its kind and tag (R173, R175), and HELLO on an UP link (R176). A taking with nothing to
take changes nothing: the model's choice (log 2). -/
def Obligations.OldestUntakenFrameIsAnswered : Prop :=
  (∀ (s : State) (l : LinkId) (k : RequestKind) (f : InboxFrame) (r : Reply), s.nextRequest l k = some f →
    ∃ older newer, (s.link l).inbox = older ++ f :: newer ∧ (∀ g ∈ older, g.answered = true) ∧ f.answered = false ∧ f.kind = k
      ∧ (s.link l).state = .up
      ∧ s.answerInbox l f r = s.setLink l { s.link l with
          inbox := older ++ { f with answered := true } :: newer
          outgoing := (s.link l).outgoing ++
            [{ origin := .inboxAnswer, kind := k.code, tag := f.tag, payload := be 1 r.reason.code ++ r.body }] })
    ∧ (∀ (s : State) (l : LinkId) (f : InboxFrame), s.nextRequest l .hello = some f →
      exec (.hello l) s =
        if field f.payload 0 1 = linkNumber l then answered s l f .done (be 1 (linkNumber l) ++ be 1 (linkNumber l))
        else answered s l f .wrongRole [])
    ∧ (∀ (s : State) (l : LinkId), s.nextRequest l .hello = none → exec (.hello l) s = .next s)

/-- RESET LINK (R23, R115, R146, R154, R163, R179, R180). That a station's reset may complete a pending move is the model's reading against
R150's last sentence (log 32). -/
def Obligations.ResetLinkTable : Prop :=
  ∀ (s : State) (number : Nat), s.phase = .running →
    let i := Instr.resetLink number
    (linkOf number = none → 3 < number ∧ exec i s = replied s i .outOfRange [])
      ∧ (∀ l, linkOf number = some l → (s.link l).state = .disabled → exec i s = replied s i .disabled [])
      ∧ (∀ l, linkOf number = some l → (s.link l).state ≠ .disabled →
        let c := s.link l
        let waiting := c.inbox.filter (fun f => !f.answered)
        let u := s.setLink l { c with
          state := .resetting, inbox := c.inbox.map (fun f => { f with answered := true })
          outgoing := c.outgoing ++ waiting.map (fun f =>
            { origin := .inboxAnswer, kind := f.kind.code, tag := f.tag, payload := be 1 Reason.linkReset.code }) }
        let emptied (e : Bool) : StationContext :=
          { enabled := e, held := none, grant := none, passInFlight := false, suspended := false, watch := 0, cursor := none }
        let station (st : StationId) : State :=
          match (s.station st).held with
          | none => u.setStation st (emptied (s.station st).enabled)
          | some n =>
            let r := s.record n
            freed ((u.setStation st (emptied (s.station st).enabled)).setRecord n
              { r with hold := .free, holder := none, verified := false
                       doubtful := r.doubtful || r.hold == .cutting || r.hold == .suspended })
        let v := match l with
          | .gauge => u
          | .stationA => station .a
          | .stationB => station .b
          | .mover =>
            { u with
              gaugeCounts := { accepted := 0, refused := 0 }
              alignment :=
                { gauge := none, stationA := if s.stationA.held = none then none else s.alignment.stationA
                  stationB := if s.stationB.held = none then none else s.alignment.stationB } }
        exec i s = replied (State.flagStarts s v) i .done (be 1 waiting.length))

/-! ## The store -/

/-- OPEN CATALOGUE, CLOSE CATALOGUE and the commands that stage an image (R187, R188, R189). -/
def Obligations.CatalogueAndStaging : Prop :=
  (∀ s : State, s.phase = .running →
    exec .openCatalogue s =
      (if s.visit ≠ .noVisit then replied s .openCatalogue .visitOpen []
      else if s.catalogue = .committing then replied s .openCatalogue .storeBusy []
      else replied { s with catalogue := .opened, staging := .empty } .openCatalogue .done [])
    ∧ exec .closeCatalogue s =
      (if s.catalogue = .committing then replied s .closeCatalogue .storeBusy []
      else replied { s with catalogue := .closed, staging := .empty } .closeCatalogue .done []))
    ∧ (∀ (s : State) (h : ProfileHeader) (v : LimitValues) (n : Nat), s.phase = .running →
      exec (.writeProfileHead h) s =
        (if s.catalogue = .closed then replied s (.writeProfileHead h) .catalogueClosed []
        else if s.catalogue = .committing then replied s (.writeProfileHead h) .storeBusy []
        else if 15 < h.number then replied s (.writeProfileHead h) .outOfRange []
        else
          replied { s with staging := .profile h.number { header := h, slots := Vector.replicate 48 { lateral := 0, radial := 0 } } }
            (.writeProfileHead h) .done [])
      ∧ exec (.writeLimits v) s =
        (if s.catalogue = .closed then replied s (.writeLimits v) .catalogueClosed []
        else if s.catalogue = .committing then replied s (.writeLimits v) .storeBusy []
        else replied { s with staging := .limits v } (.writeLimits v) .done [])
      ∧ exec (.eraseProfile n) s =
        (if s.catalogue = .closed then replied s (.eraseProfile n) .catalogueClosed []
        else if s.catalogue = .committing then replied s (.eraseProfile n) .storeBusy []
        else if 15 < n then replied s (.eraseProfile n) .outOfRange []
        else replied { s with staging := .erase n } (.eraseProfile n) .done []))

/-- R190: WRITE POINTS. -/
def Obligations.WritePointsTable : Prop :=
  ∀ (s : State) (start : Nat) (points : List Point), s.phase = .running →
    let i := Instr.writePoints start points
    (s.catalogue = .closed → exec i s = replied s i .catalogueClosed [])
      ∧ (s.catalogue = .committing → exec i s = replied s i .storeBusy [])
      ∧ (s.catalogue = .opened → (∀ n image, s.staging ≠ .profile n image) → exec i s = replied s i .nothingStaged [])
      ∧ (∀ n image, s.catalogue = .opened → s.staging = .profile n image →
        (47 < start ∨ points.length < 1 ∨ 16 < points.length → exec i s = replied s i .outOfRange [])
          ∧ (start ≤ 47 → 1 ≤ points.length → points.length ≤ 16 → ∃ slots : Vector Point 48,
            exec i s = replied { s with staging := .profile n { image with slots := slots } } i .done
                (be 1 ((start + points.length) % 48))
              ∧ (∀ k p, points[k]? = some p → slots[(start + k) % 48]? = some p)
              ∧ (∀ j < 48, (∀ k < points.length, (start + k) % 48 ≠ j) → slots[j]? = image.slots[j]?)))

/-- COMMIT (R191, R192), whose tests are those of R183 and R184. -/
def Obligations.CommitTable : Prop :=
  ∀ s : State, s.phase = .running →
    (s.catalogue = .closed → exec .commit s = replied s .commit .catalogueClosed [])
      ∧ (s.catalogue = .committing → exec .commit s = replied s .commit .storeBusy [])
      ∧ (s.catalogue = .opened → s.staging = .empty → exec .commit s = replied s .commit .nothingStaged [])
      ∧ (∀ n code, s.catalogue = .opened → s.staging.page = some n → s.staging.fault = some code →
          exec .commit s = replied s .commit .outOfRange (be 1 code))
      ∧ (∀ n, s.catalogue = .opened → s.staging.page = some n → s.staging.fault = none →
          exec .commit s = replied { s with catalogue := .committing } .commit .done (be 1 n))
      ∧ (∀ n i, n ≤ 15 → ((Staging.profile n i).fault = none ↔ judge n (writtenProfile i) = .valid))
      ∧ (∀ v, (Staging.limits v).fault = none ↔ judge 16 (writtenLimits v) = .valid)
      ∧ (∀ n, (Staging.erase n).fault = none)

/-- The store completion event and STORE RESET, which end the write in flight (R193, R194), and the bytes of a page as a commit stores it: 208
for a profile, its unused slots 0, and 31 for the limits, the check code last (R192, R218). The model's choices: the completion carries
what the page then holds (log 8), a stopped write leaves contents whose check code disagrees (log 7), a completion without a write
changes nothing (log 2), a page's check code is that of R168 over all before it (log 7). -/
def Obligations.StoreWriteEnds : Prop :=
  (∀ (s : State) (c : PageContents), s.catalogue ≠ .committing → exec (.storeCompletion c) s = .next s)
    ∧ (∀ (s : State) (n : Nat) (c : PageContents), s.catalogue = .committing → s.staging.page = some n →
      (c ≠ s.staging.committed → exec (.storeCompletion c) s = .next
        (State.flag { s with pages := s.pages.setIfInBounds n c, pageStatus := s.pageStatus.setIfInBounds n .unusable,
                             catalogue := .opened } .storeFault))
        ∧ (c = s.staging.committed → exec (.storeCompletion c) s = .next
          (State.flag { s with
            pages := s.pages.setIfInBounds n c, catalogue := .opened
            pageStatus := s.pageStatus.setIfInBounds n (match s.staging with
              | .erase _ => .empty
              | _ => .valid)
            limits := match s.staging with
              | .limits v => v
              | _ => s.limits } .storeDone))
        ∧ (s.phase = .running → exec .storeReset s = replied
          (State.flag { s with pages := s.pages.setIfInBounds n .corrupt, pageStatus := s.pageStatus.setIfInBounds n .unusable,
                               catalogue := .opened } .storeFault) .storeReset .done [1#8, BitVec.ofNat 8 n]))
    ∧ (∀ s : State, s.phase = .running → s.catalogue ≠ .committing →
      exec .storeReset s = replied s .storeReset .done [0#8, 0#8])
    ∧ (∀ (n : Nat) (i : ProfileImage),
      let h := i.header
      let body := be 1 h.number ++ be 1 h.applicability ++ be 2 h.nominalThickness ++ be 2 h.acceptThickness ++ be 2 h.nominalHeight
        ++ be 2 h.maxHeight ++ be 2 h.minSteepness ++ be 1 h.restoreFactor ++ be 1 h.pointCount
        ++ (List.range 48).flatMap (fun k =>
          let p := ((i.slots[k]?).filter (fun _ => k < h.pointCount)).getD { lateral := 0, radial := 0 }
          be 2 p.lateral ++ be 2 p.radial)
      body.length = 206 ∧ storedBytes (Staging.profile n i).committed = some (body ++ be 2 (crc body).toNat))
    ∧ (∀ v : LimitValues,
      let body := be 3 v.condemnMotor ++ be 3 v.condemnTrailer ++ be 2 v.bogieTolMotor ++ be 2 v.bogieTolTrailer ++ be 2 v.carTolMotor
        ++ be 2 v.carTolTrailer ++ be 2 v.axleTol ++ be 2 v.finishTol ++ be 2 v.undercutTol ++ be 2 v.maxPassDepth ++ be 1 v.maxPasses
        ++ be 1 v.reopenLimit ++ be 2 v.cleanUp ++ be 2 v.watchReload ++ be 1 v.watchMode
      body.length = 29 ∧ storedBytes (Staging.limits v).committed = some (body ++ be 2 (crc body).toNat))
    ∧ (∀ n : Nat, (Staging.erase n).committed = .erased)

/-! ## Reads by the blocks -/

/-- READ GROUP, READ REOPEN LIST, READ VISIT, READ STATION, READ ALIGNMENT, READ PAGE and READ ATTENTION (R53, R70, R98, R149, R164, R198,
R210): each answers and changes nothing, its items written out. The order and encoding of the items that R98 and R149 list, and that READ
PAGE's contents stand behind no presence byte, are in part the model's (log 16); that READ STATION shows a watch as counting while it is not
0 in a pass that is not suspended is its reading of R149 (log 27). -/
def Obligations.BlockReads : Prop :=
  ∀ (s : State) (a b : Nat), s.phase = .running →
    (exec (.readGroup a b) s =
      match groupKindOf a with
      | none => replied s (.readGroup a b) .outOfRange []
      | some k =>
        if b < 1 ∨ (if k = .bogie then 32 else 16) < b then replied s (.readGroup a b) .outOfRange []
        else
          match (if k = .bogie then s.bogieGroups else s.carGroups).find? (fun g => g.index == b) with
          | none => replied s (.readGroup a b) .notFound []
          | some g => replied s (.readGroup a b) .done
              (be 1 g.kind.code ++ be 1 g.index ++ be 1 g.cls.code ++ be 2 g.tolerance ++ bit g.floor.isSome ++ be 3 (g.floor.getD 0)
                ++ be 1 g.members.length ++ g.members.flatMap (fun m =>
                  be 1 m ++ bit (s.record m).counted ++ bit (s.record m).target.isSome ++ be 3 ((s.record m).target.getD 0))))
      ∧ exec .readReopenList s =
          replied s .readReopenList .done (be 1 s.reopenList.length ++ s.reopenList.flatMap (fun n => be 1 n))
      ∧ exec .readVisit s = replied s .readVisit .done
          ((match s.visit with
              | .noVisit => [0#8] ++ be 4 0 ++ be 8 0
              | .opened id => [1#8, 1#8] ++ be 2 id.number ++ [1#8] ++ id.trainCode
              | .loaded id _ => [2#8, 1#8] ++ be 2 id.number ++ [1#8] ++ id.trainCode)
            ++ (match s.visit with
              | .loaded _ cars => [1#8] ++ be 1 cars.length ++ cars.flatMap (fun c =>
                  be 1 (if c.class1 = .motor then 1 else 2) ++ be 1 (if c.class2 = .motor then 1 else 2) ++ be 1 c.profile)
              | _ => [0#8, 0#8])
            ++ windowShown s.window1 ++ windowShown s.window2 ++ bit (s.condition .visitSettled)
            ++ be 1 (s.stageCount .vacant) ++ be 1 (s.stageCount .announced) ++ be 1 (s.stageCount .planned)
            ++ be 1 (s.stageCount .finished) ++ be 1 (s.stageCount .blocked) ++ be 1 (s.stageCount .condemned))
      ∧ (exec (.readStation a) s =
          match stationOf a with
          | none => replied s (.readStation a) .outOfRange []
          | some st =>
            let c := s.station st
            replied s (.readStation a) .done
              (bit c.enabled ++ be 1 (c.held.getD 0)
                ++ (match c.held with
                  | none => [0#8]
                  | some n => be 1 (s.record n).hold.code)
                ++ (match c.grant with
                  | none => [0#8, 0#8, 0#8]
                  | some depth => [1#8] ++ be 2 depth)
                ++ bit c.passInFlight ++ bit c.suspended ++ be 2 c.watch
                ++ bit (decide (c.passInFlight = true ∧ c.suspended = false ∧ c.watch ≠ 0))
                ++ (match c.cursor with
                  | none => [0#8, 0#8, 0#8]
                  | some k => [1#8] ++ be 1 k.profile ++ be 1 k.next)))
      ∧ exec .readAlignment s = replied s .readAlignment .done
          (be 1 s.moveState.code ++ bit s.moveRequest ++ bit (s.moveState == .granted)
            ++ be 1 (s.alignment.gauge.getD 0) ++ be 1 (s.alignment.stationA.getD 0) ++ be 1 (s.alignment.stationB.getD 0)
            ++ be 1 (s.stationA.held.getD 0) ++ be 1 (s.stationB.held.getD 0)
            ++ be 1 s.gaugeCounts.accepted ++ be 1 s.gaugeCounts.refused)
      ∧ (exec (.readPage a) s =
          if 16 < a then replied s (.readPage a) .outOfRange []
          else if s.catalogue = .committing ∧ s.staging.page = some a then replied s (.readPage a) .storeBusy []
          else
            replied s (.readPage a) .done (be 1 a ++ be 1 (s.statusOf a).code
              ++ if s.statusOf a = .valid then
                  match s.page a with
                  | .profile i _ => headerBytes i.header ++ (i.slots.toList.take i.header.pointCount).flatMap pointBytes
                  | .limits v _ => limitsBytes v
                  | _ => []
                else []))
      ∧ exec .readAttention s = replied s .readAttention .done
          (bit s.selected.isSome ++ be 1 ((s.selected.map (fun k => k.index.val)).getD 0)
            ++ allSources.flatMap (fun k => bit (s.source k).flag ++ bit (s.source k).enable ++ be 1 (s.source k).level))

/-! ## Attention -/

/-- ACK EVENTS (R211). The answer's twelve flag bytes are the model's reading (log 16). -/
def Obligations.AckEventsTable : Prop :=
  ∀ (s : State) (mask : Nat), s.phase = .running →
    (4096 ≤ mask → exec (.ackEvents mask) s = replied s (.ackEvents mask) .outOfRange [])
      ∧ (mask < 4096 → ∃ u : State,
        exec (.ackEvents mask) s = replied u (.ackEvents mask) .done (allSources.flatMap (fun k => bit (u.source k).flag))
          ∧ u = { s with attention := u.attention }
          ∧ (∀ k : Source, u.source k =
              { s.source k with flag := if mask.testBit k.index.val then s.condition k else (s.source k).flag })
          ∧ (u.attentionLine = true ↔ ∃ k : Source, (u.source k).flag = true ∧ (u.source k).enable = true ∧ 1 ≤ (u.source k).level))

/-- R212: SET EVENT. -/
def Obligations.SetEventTable : Prop :=
  ∀ (s : State) (number enable level : Nat), s.phase = .running →
    let i := Instr.setEvent number enable level
    (11 < number ∨ 1 < enable ∨ 7 < level → exec i s = replied s i .outOfRange [])
      ∧ (number ≤ 11 → enable ≤ 1 → level ≤ 7 → ∃ k : Source, k.index.val = number ∧ ∃ u : State,
        exec i s = replied u i .done (bit (s.source k).flag ++ be 1 enable ++ be 1 level)
          ∧ u = { s with attention := u.attention }
          ∧ (∀ j : Source, u.source j =
              if j = k then { flag := (s.source k).flag, enable := enable == 1, level := level } else s.source j)
          ∧ (enable = 1 → 1 ≤ level → (s.source k).flag = true → u.attentionLine = true)
          ∧ (enable = 0 ∨ level = 0 →
              (∀ j : Source, j ≠ k → ¬ ((s.source j).flag = true ∧ (s.source j).enable = true ∧ 1 ≤ (s.source j).level)) →
                u.attentionLine = false))

/-- The ATTENTION line, the selected source, the conditions, and the flagging of a condition in the step in which it starts (R208, R209,
R210). That a source is flagged on the edge of its condition is the model's reading (log 17). -/
def Obligations.AttentionLineAndSelection : Prop :=
  (∀ s : State,
    let asserts (k : Source) : Prop := (s.source k).flag = true ∧ (s.source k).enable = true ∧ 1 ≤ (s.source k).level
    (s.attentionLine = true ↔ ∃ k : Source, asserts k)
      ∧ (s.selected = none ↔ ¬ ∃ k : Source, asserts k)
      ∧ (∀ k, s.selected = some k → asserts k ∧ ∀ j : Source, asserts j →
          (s.source j).level ≤ (s.source k).level ∧ ((s.source j).level = (s.source k).level → k.index ≤ j.index))
      ∧ (s.condition .blocked = true ↔ ∃ n ∈ ordinals, (s.record n).stage = .blocked)
      ∧ (s.condition .reopened = true ↔ s.reopenList ≠ [])
      ∧ (s.condition .moveWaiting = true ↔ s.moveState = .pending)
      ∧ (s.condition .visitSettled = true ↔ s.isLoaded = true
          ∧ (∀ n ∈ ordinals, n ≤ s.recordCount → (s.record n).stage = .finished ∨ (s.record n).stage = .condemned)
          ∧ ∀ n ∈ ordinals, (s.record n).hold = .free)
      ∧ (s.Safe → s.phase ≠ .running → s.attentionLine = false))
    ∧ (∀ (s u : State), State.flagStarts s u = { u with attention := (State.flagStarts s u).attention }
      ∧ ∀ k : Source, (State.flagStarts s u).source k =
          { u.source k with flag := (u.source k).flag || (u.condition k && !s.condition k) })

/-! ## The laws every step keeps

Each says: from a safe state, a step that answers a next state leaves one of the laws of `State.Safe` in force. -/

/-- R197: what RESET leaves is untouched until the start-up check ends, but for links' answers, windows and the strap. The shape of the
state under RESET and STARTING is in part the model's (logs 3, 4, 5, 13). -/
def Obligations.StepKeepsQuietPhases : Prop := ∀ s t : State, s.Safe → step s = .next t → t.QuietSafe

/-- R148, R166, R171, R173, R174, R176, R178: the links. -/
def Obligations.StepKeepsLinks : Prop := ∀ s t : State, s.Safe → step s = .next t → t.LinksSafe

/-- R15, R20, R21, R24, R116, R148, R159, R177: the holds and the station contexts. -/
def Obligations.StepKeepsHolds : Prop := ∀ s t : State, s.Safe → step s = .next t → t.HoldsSafe

/-- R100, R151, R154, R158, R159: the move handshake and the alignment table. -/
def Obligations.StepKeepsMotion : Prop := ∀ s t : State, s.Safe → step s = .next t → t.MotionSafe

/-- R1, R5, R7, R11, R12, R13, R14, R18, R73: the records. -/
def Obligations.StepKeepsRecords : Prop := ∀ s t : State, s.Safe → step s = .next t → t.RecordsSafe

/-- R48, R49, R51, R52: the groups, their floors and their spread. -/
def Obligations.StepKeepsGroups : Prop := ∀ s t : State, s.Safe → step s = .next t → t.GroupsSafe

/-- R26, R68: the reopen list and the serial map. That the map's serials rise is the model's DESIGN CHOICE (log 24): R26 has a set, read by
serial alone. -/
def Obligations.StepKeepsReopenListAndSerialMap : Prop :=
  ∀ s t : State, s.Safe → step s = .next t → t.ReopenSafe ∧ t.SerialsSafe

/-- R32, R83, R85, R182, R183, R185: the store. Pages are typed contents (log 7). -/
def Obligations.StepKeepsStore : Prop := ∀ s t : State, s.Safe → step s = .next t → t.StoreSafe

/-- R206, R208: the attention sources. -/
def Obligations.StepKeepsAttention : Prop := ∀ s t : State, s.Safe → step s = .next t → t.AttentionSafe
end

