-- ==== Sys2Proof/Laws/State.lean ====
section
/-! SUPPORT. Which fields a named update leaves as they are: one lemma per field and update, so that no proof unfolds an update to read a
field it does not write. What an update does to what it writes is in Laws/Tables.lean. -/
namespace Sys2Proof.Machine

variable (s : State) (st : StationId) (c : StationContext) (l : LinkId) (d : LinkContext) (n : Nat) (ns : List Nat) (r : Record)
  (k : Source) (x : SourceState) (code : Byte) (i : Instr) (a : Reply)

/-! ## setRecord -/

@[simp] theorem State.phase_setRecord : (s.setRecord n r).phase = s.phase := rfl
@[simp] theorem State.stationMode_setRecord : (s.setRecord n r).stationMode = s.stationMode := rfl
@[simp] theorem State.serialMap_setRecord : (s.setRecord n r).serialMap = s.serialMap := rfl
@[simp] theorem State.bogieGroups_setRecord : (s.setRecord n r).bogieGroups = s.bogieGroups := rfl
@[simp] theorem State.carGroups_setRecord : (s.setRecord n r).carGroups = s.carGroups := rfl
@[simp] theorem State.reopenList_setRecord : (s.setRecord n r).reopenList = s.reopenList := rfl
@[simp] theorem State.visit_setRecord : (s.setRecord n r).visit = s.visit := rfl
@[simp] theorem State.window1_setRecord : (s.setRecord n r).window1 = s.window1 := rfl
@[simp] theorem State.window2_setRecord : (s.setRecord n r).window2 = s.window2 := rfl
@[simp] theorem State.gaugeCounts_setRecord : (s.setRecord n r).gaugeCounts = s.gaugeCounts := rfl
@[simp] theorem State.stationA_setRecord : (s.setRecord n r).stationA = s.stationA := rfl
@[simp] theorem State.stationB_setRecord : (s.setRecord n r).stationB = s.stationB := rfl
@[simp] theorem State.moveState_setRecord : (s.setRecord n r).moveState = s.moveState := rfl
@[simp] theorem State.moveRequest_setRecord : (s.setRecord n r).moveRequest = s.moveRequest := rfl
@[simp] theorem State.alignment_setRecord : (s.setRecord n r).alignment = s.alignment := rfl
@[simp] theorem State.linkGauge_setRecord : (s.setRecord n r).linkGauge = s.linkGauge := rfl
@[simp] theorem State.linkA_setRecord : (s.setRecord n r).linkA = s.linkA := rfl
@[simp] theorem State.linkB_setRecord : (s.setRecord n r).linkB = s.linkB := rfl
@[simp] theorem State.linkMover_setRecord : (s.setRecord n r).linkMover = s.linkMover := rfl
@[simp] theorem State.pages_setRecord : (s.setRecord n r).pages = s.pages := rfl
@[simp] theorem State.pageStatus_setRecord : (s.setRecord n r).pageStatus = s.pageStatus := rfl
@[simp] theorem State.catalogue_setRecord : (s.setRecord n r).catalogue = s.catalogue := rfl
@[simp] theorem State.staging_setRecord : (s.setRecord n r).staging = s.staging := rfl
@[simp] theorem State.limits_setRecord : (s.setRecord n r).limits = s.limits := rfl
@[simp] theorem State.lastAnswer_setRecord : (s.setRecord n r).lastAnswer = s.lastAnswer := rfl
@[simp] theorem State.dataOut_setRecord : (s.setRecord n r).dataOut = s.dataOut := rfl
@[simp] theorem State.attention_setRecord : (s.setRecord n r).attention = s.attention := rfl
@[simp] theorem State.pending_setRecord : (s.setRecord n r).pending = s.pending := rfl

/-! ## setStation -/

@[simp] theorem State.phase_setStation : (s.setStation st c).phase = s.phase := by cases st <;> rfl
@[simp] theorem State.stationMode_setStation : (s.setStation st c).stationMode = s.stationMode := by cases st <;> rfl
@[simp] theorem State.records_setStation : (s.setStation st c).records = s.records := by cases st <;> rfl
@[simp] theorem State.serialMap_setStation : (s.setStation st c).serialMap = s.serialMap := by cases st <;> rfl
@[simp] theorem State.bogieGroups_setStation : (s.setStation st c).bogieGroups = s.bogieGroups := by cases st <;> rfl
@[simp] theorem State.carGroups_setStation : (s.setStation st c).carGroups = s.carGroups := by cases st <;> rfl
@[simp] theorem State.reopenList_setStation : (s.setStation st c).reopenList = s.reopenList := by cases st <;> rfl
@[simp] theorem State.visit_setStation : (s.setStation st c).visit = s.visit := by cases st <;> rfl
@[simp] theorem State.window1_setStation : (s.setStation st c).window1 = s.window1 := by cases st <;> rfl
@[simp] theorem State.window2_setStation : (s.setStation st c).window2 = s.window2 := by cases st <;> rfl
@[simp] theorem State.gaugeCounts_setStation : (s.setStation st c).gaugeCounts = s.gaugeCounts := by cases st <;> rfl
@[simp] theorem State.moveState_setStation : (s.setStation st c).moveState = s.moveState := by cases st <;> rfl
@[simp] theorem State.moveRequest_setStation : (s.setStation st c).moveRequest = s.moveRequest := by cases st <;> rfl
@[simp] theorem State.alignment_setStation : (s.setStation st c).alignment = s.alignment := by cases st <;> rfl
@[simp] theorem State.linkGauge_setStation : (s.setStation st c).linkGauge = s.linkGauge := by cases st <;> rfl
@[simp] theorem State.linkA_setStation : (s.setStation st c).linkA = s.linkA := by cases st <;> rfl
@[simp] theorem State.linkB_setStation : (s.setStation st c).linkB = s.linkB := by cases st <;> rfl
@[simp] theorem State.linkMover_setStation : (s.setStation st c).linkMover = s.linkMover := by cases st <;> rfl
@[simp] theorem State.pages_setStation : (s.setStation st c).pages = s.pages := by cases st <;> rfl
@[simp] theorem State.pageStatus_setStation : (s.setStation st c).pageStatus = s.pageStatus := by cases st <;> rfl
@[simp] theorem State.catalogue_setStation : (s.setStation st c).catalogue = s.catalogue := by cases st <;> rfl
@[simp] theorem State.staging_setStation : (s.setStation st c).staging = s.staging := by cases st <;> rfl
@[simp] theorem State.limits_setStation : (s.setStation st c).limits = s.limits := by cases st <;> rfl
@[simp] theorem State.lastAnswer_setStation : (s.setStation st c).lastAnswer = s.lastAnswer := by cases st <;> rfl
@[simp] theorem State.dataOut_setStation : (s.setStation st c).dataOut = s.dataOut := by cases st <;> rfl
@[simp] theorem State.attention_setStation : (s.setStation st c).attention = s.attention := by cases st <;> rfl
@[simp] theorem State.pending_setStation : (s.setStation st c).pending = s.pending := by cases st <;> rfl

/-! ## setLink -/

@[simp] theorem State.phase_setLink : (s.setLink l d).phase = s.phase := by cases l <;> rfl
@[simp] theorem State.stationMode_setLink : (s.setLink l d).stationMode = s.stationMode := by cases l <;> rfl
@[simp] theorem State.records_setLink : (s.setLink l d).records = s.records := by cases l <;> rfl
@[simp] theorem State.serialMap_setLink : (s.setLink l d).serialMap = s.serialMap := by cases l <;> rfl
@[simp] theorem State.bogieGroups_setLink : (s.setLink l d).bogieGroups = s.bogieGroups := by cases l <;> rfl
@[simp] theorem State.carGroups_setLink : (s.setLink l d).carGroups = s.carGroups := by cases l <;> rfl
@[simp] theorem State.reopenList_setLink : (s.setLink l d).reopenList = s.reopenList := by cases l <;> rfl
@[simp] theorem State.visit_setLink : (s.setLink l d).visit = s.visit := by cases l <;> rfl
@[simp] theorem State.window1_setLink : (s.setLink l d).window1 = s.window1 := by cases l <;> rfl
@[simp] theorem State.window2_setLink : (s.setLink l d).window2 = s.window2 := by cases l <;> rfl
@[simp] theorem State.gaugeCounts_setLink : (s.setLink l d).gaugeCounts = s.gaugeCounts := by cases l <;> rfl
@[simp] theorem State.stationA_setLink : (s.setLink l d).stationA = s.stationA := by cases l <;> rfl
@[simp] theorem State.stationB_setLink : (s.setLink l d).stationB = s.stationB := by cases l <;> rfl
@[simp] theorem State.moveState_setLink : (s.setLink l d).moveState = s.moveState := by cases l <;> rfl
@[simp] theorem State.moveRequest_setLink : (s.setLink l d).moveRequest = s.moveRequest := by cases l <;> rfl
@[simp] theorem State.alignment_setLink : (s.setLink l d).alignment = s.alignment := by cases l <;> rfl
@[simp] theorem State.pages_setLink : (s.setLink l d).pages = s.pages := by cases l <;> rfl
@[simp] theorem State.pageStatus_setLink : (s.setLink l d).pageStatus = s.pageStatus := by cases l <;> rfl
@[simp] theorem State.catalogue_setLink : (s.setLink l d).catalogue = s.catalogue := by cases l <;> rfl
@[simp] theorem State.staging_setLink : (s.setLink l d).staging = s.staging := by cases l <;> rfl
@[simp] theorem State.limits_setLink : (s.setLink l d).limits = s.limits := by cases l <;> rfl
@[simp] theorem State.lastAnswer_setLink : (s.setLink l d).lastAnswer = s.lastAnswer := by cases l <;> rfl
@[simp] theorem State.dataOut_setLink : (s.setLink l d).dataOut = s.dataOut := by cases l <;> rfl
@[simp] theorem State.attention_setLink : (s.setLink l d).attention = s.attention := by cases l <;> rfl
@[simp] theorem State.pending_setLink : (s.setLink l d).pending = s.pending := by cases l <;> rfl

/-! ## setSource -/

@[simp] theorem State.phase_setSource : (s.setSource k x).phase = s.phase := rfl
@[simp] theorem State.stationMode_setSource : (s.setSource k x).stationMode = s.stationMode := rfl
@[simp] theorem State.records_setSource : (s.setSource k x).records = s.records := rfl
@[simp] theorem State.serialMap_setSource : (s.setSource k x).serialMap = s.serialMap := rfl
@[simp] theorem State.bogieGroups_setSource : (s.setSource k x).bogieGroups = s.bogieGroups := rfl
@[simp] theorem State.carGroups_setSource : (s.setSource k x).carGroups = s.carGroups := rfl
@[simp] theorem State.reopenList_setSource : (s.setSource k x).reopenList = s.reopenList := rfl
@[simp] theorem State.visit_setSource : (s.setSource k x).visit = s.visit := rfl
@[simp] theorem State.window1_setSource : (s.setSource k x).window1 = s.window1 := rfl
@[simp] theorem State.window2_setSource : (s.setSource k x).window2 = s.window2 := rfl
@[simp] theorem State.gaugeCounts_setSource : (s.setSource k x).gaugeCounts = s.gaugeCounts := rfl
@[simp] theorem State.stationA_setSource : (s.setSource k x).stationA = s.stationA := rfl
@[simp] theorem State.stationB_setSource : (s.setSource k x).stationB = s.stationB := rfl
@[simp] theorem State.moveState_setSource : (s.setSource k x).moveState = s.moveState := rfl
@[simp] theorem State.moveRequest_setSource : (s.setSource k x).moveRequest = s.moveRequest := rfl
@[simp] theorem State.alignment_setSource : (s.setSource k x).alignment = s.alignment := rfl
@[simp] theorem State.linkGauge_setSource : (s.setSource k x).linkGauge = s.linkGauge := rfl
@[simp] theorem State.linkA_setSource : (s.setSource k x).linkA = s.linkA := rfl
@[simp] theorem State.linkB_setSource : (s.setSource k x).linkB = s.linkB := rfl
@[simp] theorem State.linkMover_setSource : (s.setSource k x).linkMover = s.linkMover := rfl
@[simp] theorem State.pages_setSource : (s.setSource k x).pages = s.pages := rfl
@[simp] theorem State.pageStatus_setSource : (s.setSource k x).pageStatus = s.pageStatus := rfl
@[simp] theorem State.catalogue_setSource : (s.setSource k x).catalogue = s.catalogue := rfl
@[simp] theorem State.staging_setSource : (s.setSource k x).staging = s.staging := rfl
@[simp] theorem State.limits_setSource : (s.setSource k x).limits = s.limits := rfl
@[simp] theorem State.lastAnswer_setSource : (s.setSource k x).lastAnswer = s.lastAnswer := rfl
@[simp] theorem State.dataOut_setSource : (s.setSource k x).dataOut = s.dataOut := rfl
@[simp] theorem State.pending_setSource : (s.setSource k x).pending = s.pending := rfl

/-! ## flag -/

@[simp] theorem State.phase_flag : (s.flag k).phase = s.phase := rfl
@[simp] theorem State.stationMode_flag : (s.flag k).stationMode = s.stationMode := rfl
@[simp] theorem State.records_flag : (s.flag k).records = s.records := rfl
@[simp] theorem State.serialMap_flag : (s.flag k).serialMap = s.serialMap := rfl
@[simp] theorem State.bogieGroups_flag : (s.flag k).bogieGroups = s.bogieGroups := rfl
@[simp] theorem State.carGroups_flag : (s.flag k).carGroups = s.carGroups := rfl
@[simp] theorem State.reopenList_flag : (s.flag k).reopenList = s.reopenList := rfl
@[simp] theorem State.visit_flag : (s.flag k).visit = s.visit := rfl
@[simp] theorem State.window1_flag : (s.flag k).window1 = s.window1 := rfl
@[simp] theorem State.window2_flag : (s.flag k).window2 = s.window2 := rfl
@[simp] theorem State.gaugeCounts_flag : (s.flag k).gaugeCounts = s.gaugeCounts := rfl
@[simp] theorem State.stationA_flag : (s.flag k).stationA = s.stationA := rfl
@[simp] theorem State.stationB_flag : (s.flag k).stationB = s.stationB := rfl
@[simp] theorem State.moveState_flag : (s.flag k).moveState = s.moveState := rfl
@[simp] theorem State.moveRequest_flag : (s.flag k).moveRequest = s.moveRequest := rfl
@[simp] theorem State.alignment_flag : (s.flag k).alignment = s.alignment := rfl
@[simp] theorem State.linkGauge_flag : (s.flag k).linkGauge = s.linkGauge := rfl
@[simp] theorem State.linkA_flag : (s.flag k).linkA = s.linkA := rfl
@[simp] theorem State.linkB_flag : (s.flag k).linkB = s.linkB := rfl
@[simp] theorem State.linkMover_flag : (s.flag k).linkMover = s.linkMover := rfl
@[simp] theorem State.pages_flag : (s.flag k).pages = s.pages := rfl
@[simp] theorem State.pageStatus_flag : (s.flag k).pageStatus = s.pageStatus := rfl
@[simp] theorem State.catalogue_flag : (s.flag k).catalogue = s.catalogue := rfl
@[simp] theorem State.staging_flag : (s.flag k).staging = s.staging := rfl
@[simp] theorem State.limits_flag : (s.flag k).limits = s.limits := rfl
@[simp] theorem State.lastAnswer_flag : (s.flag k).lastAnswer = s.lastAnswer := rfl
@[simp] theorem State.dataOut_flag : (s.flag k).dataOut = s.dataOut := rfl
@[simp] theorem State.pending_flag : (s.flag k).pending = s.pending := rfl

/-! ## unlist -/

@[simp] theorem State.phase_unlist : (s.unlist n).phase = s.phase := rfl
@[simp] theorem State.stationMode_unlist : (s.unlist n).stationMode = s.stationMode := rfl
@[simp] theorem State.records_unlist : (s.unlist n).records = s.records := rfl
@[simp] theorem State.serialMap_unlist : (s.unlist n).serialMap = s.serialMap := rfl
@[simp] theorem State.bogieGroups_unlist : (s.unlist n).bogieGroups = s.bogieGroups := rfl
@[simp] theorem State.carGroups_unlist : (s.unlist n).carGroups = s.carGroups := rfl
@[simp] theorem State.visit_unlist : (s.unlist n).visit = s.visit := rfl
@[simp] theorem State.window1_unlist : (s.unlist n).window1 = s.window1 := rfl
@[simp] theorem State.window2_unlist : (s.unlist n).window2 = s.window2 := rfl
@[simp] theorem State.gaugeCounts_unlist : (s.unlist n).gaugeCounts = s.gaugeCounts := rfl
@[simp] theorem State.stationA_unlist : (s.unlist n).stationA = s.stationA := rfl
@[simp] theorem State.stationB_unlist : (s.unlist n).stationB = s.stationB := rfl
@[simp] theorem State.moveState_unlist : (s.unlist n).moveState = s.moveState := rfl
@[simp] theorem State.moveRequest_unlist : (s.unlist n).moveRequest = s.moveRequest := rfl
@[simp] theorem State.alignment_unlist : (s.unlist n).alignment = s.alignment := rfl
@[simp] theorem State.linkGauge_unlist : (s.unlist n).linkGauge = s.linkGauge := rfl
@[simp] theorem State.linkA_unlist : (s.unlist n).linkA = s.linkA := rfl
@[simp] theorem State.linkB_unlist : (s.unlist n).linkB = s.linkB := rfl
@[simp] theorem State.linkMover_unlist : (s.unlist n).linkMover = s.linkMover := rfl
@[simp] theorem State.pages_unlist : (s.unlist n).pages = s.pages := rfl
@[simp] theorem State.pageStatus_unlist : (s.unlist n).pageStatus = s.pageStatus := rfl
@[simp] theorem State.catalogue_unlist : (s.unlist n).catalogue = s.catalogue := rfl
@[simp] theorem State.staging_unlist : (s.unlist n).staging = s.staging := rfl
@[simp] theorem State.limits_unlist : (s.unlist n).limits = s.limits := rfl
@[simp] theorem State.lastAnswer_unlist : (s.unlist n).lastAnswer = s.lastAnswer := rfl
@[simp] theorem State.dataOut_unlist : (s.unlist n).dataOut = s.dataOut := rfl
@[simp] theorem State.attention_unlist : (s.unlist n).attention = s.attention := rfl
@[simp] theorem State.pending_unlist : (s.unlist n).pending = s.pending := rfl

/-! ## refloor -/

@[simp] theorem State.phase_refloor : (s.refloor ns).phase = s.phase := rfl
@[simp] theorem State.stationMode_refloor : (s.refloor ns).stationMode = s.stationMode := rfl
@[simp] theorem State.records_refloor : (s.refloor ns).records = s.records := rfl
@[simp] theorem State.serialMap_refloor : (s.refloor ns).serialMap = s.serialMap := rfl
@[simp] theorem State.reopenList_refloor : (s.refloor ns).reopenList = s.reopenList := rfl
@[simp] theorem State.visit_refloor : (s.refloor ns).visit = s.visit := rfl
@[simp] theorem State.window1_refloor : (s.refloor ns).window1 = s.window1 := rfl
@[simp] theorem State.window2_refloor : (s.refloor ns).window2 = s.window2 := rfl
@[simp] theorem State.gaugeCounts_refloor : (s.refloor ns).gaugeCounts = s.gaugeCounts := rfl
@[simp] theorem State.stationA_refloor : (s.refloor ns).stationA = s.stationA := rfl
@[simp] theorem State.stationB_refloor : (s.refloor ns).stationB = s.stationB := rfl
@[simp] theorem State.moveState_refloor : (s.refloor ns).moveState = s.moveState := rfl
@[simp] theorem State.moveRequest_refloor : (s.refloor ns).moveRequest = s.moveRequest := rfl
@[simp] theorem State.alignment_refloor : (s.refloor ns).alignment = s.alignment := rfl
@[simp] theorem State.linkGauge_refloor : (s.refloor ns).linkGauge = s.linkGauge := rfl
@[simp] theorem State.linkA_refloor : (s.refloor ns).linkA = s.linkA := rfl
@[simp] theorem State.linkB_refloor : (s.refloor ns).linkB = s.linkB := rfl
@[simp] theorem State.linkMover_refloor : (s.refloor ns).linkMover = s.linkMover := rfl
@[simp] theorem State.pages_refloor : (s.refloor ns).pages = s.pages := rfl
@[simp] theorem State.pageStatus_refloor : (s.refloor ns).pageStatus = s.pageStatus := rfl
@[simp] theorem State.catalogue_refloor : (s.refloor ns).catalogue = s.catalogue := rfl
@[simp] theorem State.staging_refloor : (s.refloor ns).staging = s.staging := rfl
@[simp] theorem State.limits_refloor : (s.refloor ns).limits = s.limits := rfl
@[simp] theorem State.lastAnswer_refloor : (s.refloor ns).lastAnswer = s.lastAnswer := rfl
@[simp] theorem State.dataOut_refloor : (s.refloor ns).dataOut = s.dataOut := rfl
@[simp] theorem State.attention_refloor : (s.refloor ns).attention = s.attention := rfl
@[simp] theorem State.pending_refloor : (s.refloor ns).pending = s.pending := rfl

/-! ## putAnswer -/

@[simp] theorem State.phase_putAnswer : (s.putAnswer n code a).phase = s.phase := rfl
@[simp] theorem State.stationMode_putAnswer : (s.putAnswer n code a).stationMode = s.stationMode := rfl
@[simp] theorem State.records_putAnswer : (s.putAnswer n code a).records = s.records := rfl
@[simp] theorem State.serialMap_putAnswer : (s.putAnswer n code a).serialMap = s.serialMap := rfl
@[simp] theorem State.bogieGroups_putAnswer : (s.putAnswer n code a).bogieGroups = s.bogieGroups := rfl
@[simp] theorem State.carGroups_putAnswer : (s.putAnswer n code a).carGroups = s.carGroups := rfl
@[simp] theorem State.reopenList_putAnswer : (s.putAnswer n code a).reopenList = s.reopenList := rfl
@[simp] theorem State.visit_putAnswer : (s.putAnswer n code a).visit = s.visit := rfl
@[simp] theorem State.window1_putAnswer : (s.putAnswer n code a).window1 = s.window1 := rfl
@[simp] theorem State.window2_putAnswer : (s.putAnswer n code a).window2 = s.window2 := rfl
@[simp] theorem State.gaugeCounts_putAnswer : (s.putAnswer n code a).gaugeCounts = s.gaugeCounts := rfl
@[simp] theorem State.stationA_putAnswer : (s.putAnswer n code a).stationA = s.stationA := rfl
@[simp] theorem State.stationB_putAnswer : (s.putAnswer n code a).stationB = s.stationB := rfl
@[simp] theorem State.moveState_putAnswer : (s.putAnswer n code a).moveState = s.moveState := rfl
@[simp] theorem State.moveRequest_putAnswer : (s.putAnswer n code a).moveRequest = s.moveRequest := rfl
@[simp] theorem State.alignment_putAnswer : (s.putAnswer n code a).alignment = s.alignment := rfl
@[simp] theorem State.linkGauge_putAnswer : (s.putAnswer n code a).linkGauge = s.linkGauge := rfl
@[simp] theorem State.linkA_putAnswer : (s.putAnswer n code a).linkA = s.linkA := rfl
@[simp] theorem State.linkB_putAnswer : (s.putAnswer n code a).linkB = s.linkB := rfl
@[simp] theorem State.linkMover_putAnswer : (s.putAnswer n code a).linkMover = s.linkMover := rfl
@[simp] theorem State.pages_putAnswer : (s.putAnswer n code a).pages = s.pages := rfl
@[simp] theorem State.pageStatus_putAnswer : (s.putAnswer n code a).pageStatus = s.pageStatus := rfl
@[simp] theorem State.catalogue_putAnswer : (s.putAnswer n code a).catalogue = s.catalogue := rfl
@[simp] theorem State.staging_putAnswer : (s.putAnswer n code a).staging = s.staging := rfl
@[simp] theorem State.limits_putAnswer : (s.putAnswer n code a).limits = s.limits := rfl
@[simp] theorem State.attention_putAnswer : (s.putAnswer n code a).attention = s.attention := rfl
@[simp] theorem State.pending_putAnswer : (s.putAnswer n code a).pending = s.pending := rfl

/-! ## answerCommand -/

@[simp] theorem State.phase_answerCommand : (s.answerCommand i a).phase = s.phase := rfl
@[simp] theorem State.stationMode_answerCommand : (s.answerCommand i a).stationMode = s.stationMode := rfl
@[simp] theorem State.records_answerCommand : (s.answerCommand i a).records = s.records := rfl
@[simp] theorem State.serialMap_answerCommand : (s.answerCommand i a).serialMap = s.serialMap := rfl
@[simp] theorem State.bogieGroups_answerCommand : (s.answerCommand i a).bogieGroups = s.bogieGroups := rfl
@[simp] theorem State.carGroups_answerCommand : (s.answerCommand i a).carGroups = s.carGroups := rfl
@[simp] theorem State.reopenList_answerCommand : (s.answerCommand i a).reopenList = s.reopenList := rfl
@[simp] theorem State.visit_answerCommand : (s.answerCommand i a).visit = s.visit := rfl
@[simp] theorem State.window1_answerCommand : (s.answerCommand i a).window1 = s.window1 := rfl
@[simp] theorem State.window2_answerCommand : (s.answerCommand i a).window2 = s.window2 := rfl
@[simp] theorem State.gaugeCounts_answerCommand : (s.answerCommand i a).gaugeCounts = s.gaugeCounts := rfl
@[simp] theorem State.stationA_answerCommand : (s.answerCommand i a).stationA = s.stationA := rfl
@[simp] theorem State.stationB_answerCommand : (s.answerCommand i a).stationB = s.stationB := rfl
@[simp] theorem State.moveState_answerCommand : (s.answerCommand i a).moveState = s.moveState := rfl
@[simp] theorem State.moveRequest_answerCommand : (s.answerCommand i a).moveRequest = s.moveRequest := rfl
@[simp] theorem State.alignment_answerCommand : (s.answerCommand i a).alignment = s.alignment := rfl
@[simp] theorem State.linkGauge_answerCommand : (s.answerCommand i a).linkGauge = s.linkGauge := rfl
@[simp] theorem State.linkA_answerCommand : (s.answerCommand i a).linkA = s.linkA := rfl
@[simp] theorem State.linkB_answerCommand : (s.answerCommand i a).linkB = s.linkB := rfl
@[simp] theorem State.linkMover_answerCommand : (s.answerCommand i a).linkMover = s.linkMover := rfl
@[simp] theorem State.pages_answerCommand : (s.answerCommand i a).pages = s.pages := rfl
@[simp] theorem State.pageStatus_answerCommand : (s.answerCommand i a).pageStatus = s.pageStatus := rfl
@[simp] theorem State.catalogue_answerCommand : (s.answerCommand i a).catalogue = s.catalogue := rfl
@[simp] theorem State.staging_answerCommand : (s.answerCommand i a).staging = s.staging := rfl
@[simp] theorem State.limits_answerCommand : (s.answerCommand i a).limits = s.limits := rfl
@[simp] theorem State.attention_answerCommand : (s.answerCommand i a).attention = s.attention := rfl
@[simp] theorem State.pending_answerCommand : (s.answerCommand i a).pending = s.pending := rfl

end Sys2Proof.Machine
end

