-- ==== Sys2Proof/Laws/Tables.lean ====
section
/-! SUPPORT. What a table, a station context, a link context and an attention source read after each named update: the entry written, the
others as they were. -/
namespace Sys2Proof.Machine

/-! ## The wheelset table -/

theorem mem_ordinals (n : Nat) : n ∈ ordinals ↔ 1 ≤ n ∧ n ≤ 64 := by
  simp only [ordinals, List.mem_map, List.mem_range]
  constructor
  · rintro ⟨k, hk, rfl⟩; omega
  · rintro ⟨h1, h2⟩; exact ⟨n - 1, by omega, by omega⟩

/-- A write of an ordinal of the table is read back; the other records stand (R2). -/
theorem tableGet_tableSet (t : Vector Record 64) (n m : Nat) (r : Record) :
    tableGet (tableSet t n r) m = if m = n ∧ 1 ≤ n ∧ n ≤ 64 then r else tableGet t m := by
  unfold tableGet tableSet
  by_cases hn : 1 ≤ n ∧ n ≤ 64 <;> by_cases hm : 1 ≤ m ∧ m ≤ 64 <;> simp only [hn, hm, and_self, dite_true, dite_false, and_true, and_false, if_false]
  · rw [Vector.getElem_set]
    by_cases h : m = n
    · subst h; simp
    · have : n - 1 ≠ m - 1 := by omega
      simp [h, this]
  · have : m ≠ n := by rintro rfl; exact hm hn
    simp [this]

theorem State.record_setRecord_same (s : State) (n : Nat) (r : Record) (h1 : 1 ≤ n) (h2 : n ≤ 64) : (s.setRecord n r).record n = r := by
  simp [State.record, State.setRecord, tableGet_tableSet, h1, h2]

theorem State.record_setRecord_ne (s : State) (n m : Nat) (r : Record) (h : m ≠ n) : (s.setRecord n r).record m = s.record m := by
  simp [State.record, State.setRecord, tableGet_tableSet, h]

theorem State.record_setRecord (s : State) (n m : Nat) (r : Record) :
    (s.setRecord n r).record m = if m = n ∧ 1 ≤ n ∧ n ≤ 64 then r else s.record m := tableGet_tableSet _ _ _ _

/-- Outside 1..64 there is no record (R1). -/
theorem State.record_outside (s : State) (n : Nat) (h : ¬ (1 ≤ n ∧ n ≤ 64)) : s.record n = Record.vacant := by
  simp [State.record, tableGet, h]

/-- A record written twice holds the second. -/
@[simp] theorem State.setRecord_setRecord (s : State) (n : Nat) (r q : Record) : (s.setRecord n r).setRecord n q = s.setRecord n q := by
  unfold State.setRecord tableSet
  by_cases h : 1 ≤ n ∧ n ≤ 64 <;> simp [h]

/-- A record is the value its change gives (R2). -/
theorem State.modRecord_eq (s : State) (n : Nat) (f : Record → Record) : s.modRecord n f = s.setRecord n (f (s.record n)) := rfl

/-- A table made by a function reads as the function (R17). -/
theorem tableGet_tableOf (f : Nat → Record) (n : Nat) (h1 : 1 ≤ n) (h2 : n ≤ 64) : tableGet (tableOf f) n = f n := by
  have : n - 1 + 1 = n := by omega
  simp [tableGet, tableOf, ordinals, h1, h2, this]

@[simp] theorem tableGet_replicate (n : Nat) : tableGet (Vector.replicate 64 Record.vacant) n = Record.vacant := by
  unfold tableGet; split <;> simp

/-! ## Stations -/

@[simp] theorem State.station_setStation_same (s : State) (st : StationId) (c : StationContext) : (s.setStation st c).station st = c := by
  cases st <;> rfl

theorem State.station_setStation_ne (s : State) (st q : StationId) (c : StationContext) (h : q ≠ st) :
    (s.setStation st c).station q = s.station q := by
  cases st <;> cases q <;> first | rfl | exact absurd rfl h

@[simp] theorem State.setStation_setStation (s : State) (st : StationId) (c d : StationContext) :
    (s.setStation st c).setStation st d = s.setStation st d := by cases st <;> rfl

theorem State.modStation_eq (s : State) (st : StationId) (f : StationContext → StationContext) :
    s.modStation st f = s.setStation st (f (s.station st)) := rfl

@[simp] theorem State.setStation_station (s : State) (st : StationId) : s.setStation st (s.station st) = s := by cases st <;> rfl

theorem State.setRecord_setStation (s : State) (st : StationId) (c : StationContext) (n : Nat) (r : Record) :
    (s.setStation st c).setRecord n r = (s.setRecord n r).setStation st c := by cases st <;> rfl

/-! ## Links -/

@[simp] theorem State.link_setLink_same (s : State) (l : LinkId) (c : LinkContext) : (s.setLink l c).link l = c := by
  cases l <;> rfl

theorem State.link_setLink_ne (s : State) (l p : LinkId) (c : LinkContext) (h : p ≠ l) : (s.setLink l c).link p = s.link p := by
  cases l <;> cases p <;> first | rfl | exact absurd rfl h

@[simp] theorem State.setLink_setLink (s : State) (l : LinkId) (c d : LinkContext) : (s.setLink l c).setLink l d = s.setLink l d := by
  cases l <;> rfl

theorem State.modLink_eq (s : State) (l : LinkId) (f : LinkContext → LinkContext) : s.modLink l f = s.setLink l (f (s.link l)) := rfl

@[simp] theorem State.setLink_link (s : State) (l : LinkId) : s.setLink l (s.link l) = s := by cases l <;> rfl

/-! ## Attention sources -/

theorem Source.index_inj {j k : Source} (h : j.index.val = k.index.val) : j = k := by
  cases j <;> cases k <;> first | rfl | exact absurd h (by decide)

theorem mem_allSources (k : Source) : k ∈ allSources := by cases k <;> decide

/-- Two states' sources agree when each of the twelve does (R206). -/
theorem attention_ext {s t : State} (h : ∀ k : Source, s.source k = t.source k) : s.attention = t.attention := by
  apply Vector.ext
  intro n hn
  have key : ∀ k : Source, s.attention[k.index.val] = t.attention[k.index.val] := h
  match n, hn with
  | 0, _ => exact key .storeDone
  | 1, _ => exact key .storeFault
  | 2, _ => exact key .blocked
  | 3, _ => exact key .condemned
  | 4, _ => exact key .reopened
  | 5, _ => exact key .passOverrun
  | 6, _ => exact key .overcut
  | 7, _ => exact key .serialConflict
  | 8, _ => exact key .linkFault
  | 9, _ => exact key .moveWaiting
  | 10, _ => exact key .visitSettled
  | 11, _ => exact key .linkUp
  | n + 12, hn => omega

@[simp] theorem State.source_setSource_same (s : State) (k : Source) (x : SourceState) : (s.setSource k x).source k = x := by
  simp [State.source, State.setSource]

theorem State.source_setSource_ne (s : State) (j k : Source) (x : SourceState) (h : j ≠ k) : (s.setSource k x).source j = s.source j := by
  have : k.index.val ≠ j.index.val := fun e => h (Source.index_inj e).symm
  simp [State.source, State.setSource, this]

/-- Flagging a source sets that flag and nothing else (R207). -/
theorem State.source_flag (s : State) (j k : Source) :
    (s.flag k).source j = if j = k then { s.source k with flag := true } else s.source j := by
  by_cases h : j = k
  · subst h; simp [State.flag]
  · simp [State.flag, State.source_setSource_ne _ _ _ _ h, h]

theorem State.flag_eq (s : State) (k : Source) : s.flag k = { s with attention := (s.flag k).attention } := rfl

/-! ## Reads that an update leaves as they are -/

variable (s : State) (st q : StationId) (c : StationContext) (l p : LinkId) (d : LinkContext) (n m : Nat) (ns ms : List Nat) (r : Record)
  (k j : Source) (x : SourceState) (code : Byte) (i : Instr) (a : Reply) (g : Stage)

/-! ### setRecord -/

@[simp] theorem State.station_setRecord : (s.setRecord n r).station q = s.station q := rfl
@[simp] theorem State.link_setRecord : (s.setRecord n r).link p = s.link p := rfl
@[simp] theorem State.source_setRecord : (s.setRecord n r).source j = s.source j := rfl
@[simp] theorem State.consist_setRecord : (s.setRecord n r).consist = s.consist := rfl
@[simp] theorem State.isLoaded_setRecord : (s.setRecord n r).isLoaded = s.isLoaded := rfl
@[simp] theorem State.recordCount_setRecord : (s.setRecord n r).recordCount = s.recordCount := rfl
@[simp] theorem State.exempt_setRecord : (s.setRecord n r).exempt m = s.exempt m := rfl
@[simp] theorem State.bogieGroup_setRecord : (s.setRecord n r).bogieGroup m = s.bogieGroup m := rfl
@[simp] theorem State.carGroup_setRecord : (s.setRecord n r).carGroup m = s.carGroup m := rfl
@[simp] theorem State.alignedAt_setRecord : (s.setRecord n r).alignedAt q = s.alignedAt q := rfl
@[simp] theorem State.anyHeld_setRecord : (s.setRecord n r).anyHeld = s.anyHeld := rfl
@[simp] theorem State.page_setRecord : (s.setRecord n r).page m = s.page m := rfl
@[simp] theorem State.statusOf_setRecord : (s.setRecord n r).statusOf m = s.statusOf m := rfl
@[simp] theorem State.validProfile_setRecord : (s.setRecord n r).validProfile m = s.validProfile m := rfl
@[simp] theorem State.writeInFlight_setRecord : (s.setRecord n r).writeInFlight = s.writeInFlight := rfl

/-! ### setStation -/

@[simp] theorem State.record_setStation : (s.setStation st c).record m = s.record m := by cases st <;> rfl
@[simp] theorem State.link_setStation : (s.setStation st c).link p = s.link p := by cases st <;> rfl
@[simp] theorem State.source_setStation : (s.setStation st c).source j = s.source j := by cases st <;> rfl
@[simp] theorem State.consist_setStation : (s.setStation st c).consist = s.consist := by cases st <;> rfl
@[simp] theorem State.isLoaded_setStation : (s.setStation st c).isLoaded = s.isLoaded := by cases st <;> rfl
@[simp] theorem State.recordCount_setStation : (s.setStation st c).recordCount = s.recordCount := by cases st <;> rfl
@[simp] theorem State.exempt_setStation : (s.setStation st c).exempt m = s.exempt m := by cases st <;> rfl
@[simp] theorem State.bogieGroup_setStation : (s.setStation st c).bogieGroup m = s.bogieGroup m := by cases st <;> rfl
@[simp] theorem State.carGroup_setStation : (s.setStation st c).carGroup m = s.carGroup m := by cases st <;> rfl
@[simp] theorem State.countedTargets_setStation : (s.setStation st c).countedTargets ms = s.countedTargets ms := by cases st <;> rfl
@[simp] theorem State.floorOf_setStation : (s.setStation st c).floorOf ms = s.floorOf ms := by cases st <;> rfl
@[simp] theorem State.alignedAt_setStation : (s.setStation st c).alignedAt q = s.alignedAt q := by cases st <;> rfl
@[simp] theorem State.page_setStation : (s.setStation st c).page m = s.page m := by cases st <;> rfl
@[simp] theorem State.statusOf_setStation : (s.setStation st c).statusOf m = s.statusOf m := by cases st <;> rfl
@[simp] theorem State.validProfile_setStation : (s.setStation st c).validProfile m = s.validProfile m := by cases st <;> rfl
@[simp] theorem State.writeInFlight_setStation : (s.setStation st c).writeInFlight = s.writeInFlight := by cases st <;> rfl
@[simp] theorem State.stageCount_setStation : (s.setStation st c).stageCount g = s.stageCount g := by cases st <;> rfl
@[simp] theorem State.snapshot_setStation : (s.setStation st c).snapshot m = s.snapshot m := by cases st <;> rfl

/-! ### setLink -/

@[simp] theorem State.record_setLink : (s.setLink l d).record m = s.record m := by cases l <;> rfl
@[simp] theorem State.station_setLink : (s.setLink l d).station q = s.station q := by cases l <;> rfl
@[simp] theorem State.source_setLink : (s.setLink l d).source j = s.source j := by cases l <;> rfl
@[simp] theorem State.consist_setLink : (s.setLink l d).consist = s.consist := by cases l <;> rfl
@[simp] theorem State.isLoaded_setLink : (s.setLink l d).isLoaded = s.isLoaded := by cases l <;> rfl
@[simp] theorem State.recordCount_setLink : (s.setLink l d).recordCount = s.recordCount := by cases l <;> rfl
@[simp] theorem State.exempt_setLink : (s.setLink l d).exempt m = s.exempt m := by cases l <;> rfl
@[simp] theorem State.bogieGroup_setLink : (s.setLink l d).bogieGroup m = s.bogieGroup m := by cases l <;> rfl
@[simp] theorem State.carGroup_setLink : (s.setLink l d).carGroup m = s.carGroup m := by cases l <;> rfl
@[simp] theorem State.countedTargets_setLink : (s.setLink l d).countedTargets ms = s.countedTargets ms := by cases l <;> rfl
@[simp] theorem State.floorOf_setLink : (s.setLink l d).floorOf ms = s.floorOf ms := by cases l <;> rfl
@[simp] theorem State.alignedAt_setLink : (s.setLink l d).alignedAt q = s.alignedAt q := by cases l <;> rfl
@[simp] theorem State.anyHeld_setLink : (s.setLink l d).anyHeld = s.anyHeld := by cases l <;> rfl
@[simp] theorem State.page_setLink : (s.setLink l d).page m = s.page m := by cases l <;> rfl
@[simp] theorem State.statusOf_setLink : (s.setLink l d).statusOf m = s.statusOf m := by cases l <;> rfl
@[simp] theorem State.validProfile_setLink : (s.setLink l d).validProfile m = s.validProfile m := by cases l <;> rfl
@[simp] theorem State.writeInFlight_setLink : (s.setLink l d).writeInFlight = s.writeInFlight := by cases l <;> rfl
@[simp] theorem State.stageCount_setLink : (s.setLink l d).stageCount g = s.stageCount g := by cases l <;> rfl
@[simp] theorem State.snapshot_setLink : (s.setLink l d).snapshot m = s.snapshot m := by cases l <;> rfl

/-! ### setSource -/

@[simp] theorem State.record_setSource : (s.setSource k x).record m = s.record m := rfl
@[simp] theorem State.station_setSource : (s.setSource k x).station q = s.station q := rfl
@[simp] theorem State.link_setSource : (s.setSource k x).link p = s.link p := rfl
@[simp] theorem State.consist_setSource : (s.setSource k x).consist = s.consist := rfl
@[simp] theorem State.isLoaded_setSource : (s.setSource k x).isLoaded = s.isLoaded := rfl
@[simp] theorem State.recordCount_setSource : (s.setSource k x).recordCount = s.recordCount := rfl
@[simp] theorem State.exempt_setSource : (s.setSource k x).exempt m = s.exempt m := rfl
@[simp] theorem State.bogieGroup_setSource : (s.setSource k x).bogieGroup m = s.bogieGroup m := rfl
@[simp] theorem State.carGroup_setSource : (s.setSource k x).carGroup m = s.carGroup m := rfl
@[simp] theorem State.countedTargets_setSource : (s.setSource k x).countedTargets ms = s.countedTargets ms := rfl
@[simp] theorem State.floorOf_setSource : (s.setSource k x).floorOf ms = s.floorOf ms := rfl
@[simp] theorem State.alignedAt_setSource : (s.setSource k x).alignedAt q = s.alignedAt q := rfl
@[simp] theorem State.anyHeld_setSource : (s.setSource k x).anyHeld = s.anyHeld := rfl
@[simp] theorem State.page_setSource : (s.setSource k x).page m = s.page m := rfl
@[simp] theorem State.statusOf_setSource : (s.setSource k x).statusOf m = s.statusOf m := rfl
@[simp] theorem State.validProfile_setSource : (s.setSource k x).validProfile m = s.validProfile m := rfl
@[simp] theorem State.writeInFlight_setSource : (s.setSource k x).writeInFlight = s.writeInFlight := rfl
@[simp] theorem State.stageCount_setSource : (s.setSource k x).stageCount g = s.stageCount g := rfl
@[simp] theorem State.snapshot_setSource : (s.setSource k x).snapshot m = s.snapshot m := rfl

/-! ### flag -/

@[simp] theorem State.record_flag : (s.flag k).record m = s.record m := rfl
@[simp] theorem State.station_flag : (s.flag k).station q = s.station q := rfl
@[simp] theorem State.link_flag : (s.flag k).link p = s.link p := rfl
@[simp] theorem State.consist_flag : (s.flag k).consist = s.consist := rfl
@[simp] theorem State.isLoaded_flag : (s.flag k).isLoaded = s.isLoaded := rfl
@[simp] theorem State.recordCount_flag : (s.flag k).recordCount = s.recordCount := rfl
@[simp] theorem State.exempt_flag : (s.flag k).exempt m = s.exempt m := rfl
@[simp] theorem State.bogieGroup_flag : (s.flag k).bogieGroup m = s.bogieGroup m := rfl
@[simp] theorem State.carGroup_flag : (s.flag k).carGroup m = s.carGroup m := rfl
@[simp] theorem State.countedTargets_flag : (s.flag k).countedTargets ms = s.countedTargets ms := rfl
@[simp] theorem State.floorOf_flag : (s.flag k).floorOf ms = s.floorOf ms := rfl
@[simp] theorem State.alignedAt_flag : (s.flag k).alignedAt q = s.alignedAt q := rfl
@[simp] theorem State.anyHeld_flag : (s.flag k).anyHeld = s.anyHeld := rfl
@[simp] theorem State.page_flag : (s.flag k).page m = s.page m := rfl
@[simp] theorem State.statusOf_flag : (s.flag k).statusOf m = s.statusOf m := rfl
@[simp] theorem State.validProfile_flag : (s.flag k).validProfile m = s.validProfile m := rfl
@[simp] theorem State.writeInFlight_flag : (s.flag k).writeInFlight = s.writeInFlight := rfl
@[simp] theorem State.stageCount_flag : (s.flag k).stageCount g = s.stageCount g := rfl
@[simp] theorem State.snapshot_flag : (s.flag k).snapshot m = s.snapshot m := rfl

/-! ### unlist -/

@[simp] theorem State.record_unlist : (s.unlist n).record m = s.record m := rfl
@[simp] theorem State.station_unlist : (s.unlist n).station q = s.station q := rfl
@[simp] theorem State.link_unlist : (s.unlist n).link p = s.link p := rfl
@[simp] theorem State.source_unlist : (s.unlist n).source j = s.source j := rfl
@[simp] theorem State.consist_unlist : (s.unlist n).consist = s.consist := rfl
@[simp] theorem State.isLoaded_unlist : (s.unlist n).isLoaded = s.isLoaded := rfl
@[simp] theorem State.recordCount_unlist : (s.unlist n).recordCount = s.recordCount := rfl
@[simp] theorem State.exempt_unlist : (s.unlist n).exempt m = s.exempt m := rfl
@[simp] theorem State.bogieGroup_unlist : (s.unlist n).bogieGroup m = s.bogieGroup m := rfl
@[simp] theorem State.carGroup_unlist : (s.unlist n).carGroup m = s.carGroup m := rfl
@[simp] theorem State.countedTargets_unlist : (s.unlist n).countedTargets ms = s.countedTargets ms := rfl
@[simp] theorem State.floorOf_unlist : (s.unlist n).floorOf ms = s.floorOf ms := rfl
@[simp] theorem State.alignedAt_unlist : (s.unlist n).alignedAt q = s.alignedAt q := rfl
@[simp] theorem State.anyHeld_unlist : (s.unlist n).anyHeld = s.anyHeld := rfl
@[simp] theorem State.page_unlist : (s.unlist n).page m = s.page m := rfl
@[simp] theorem State.statusOf_unlist : (s.unlist n).statusOf m = s.statusOf m := rfl
@[simp] theorem State.validProfile_unlist : (s.unlist n).validProfile m = s.validProfile m := rfl
@[simp] theorem State.writeInFlight_unlist : (s.unlist n).writeInFlight = s.writeInFlight := rfl
@[simp] theorem State.stageCount_unlist : (s.unlist n).stageCount g = s.stageCount g := rfl
@[simp] theorem State.snapshot_unlist : (s.unlist n).snapshot m = s.snapshot m := rfl

/-! ### refloor -/

@[simp] theorem State.record_refloor : (s.refloor ns).record m = s.record m := rfl
@[simp] theorem State.station_refloor : (s.refloor ns).station q = s.station q := rfl
@[simp] theorem State.link_refloor : (s.refloor ns).link p = s.link p := rfl
@[simp] theorem State.source_refloor : (s.refloor ns).source j = s.source j := rfl
@[simp] theorem State.consist_refloor : (s.refloor ns).consist = s.consist := rfl
@[simp] theorem State.isLoaded_refloor : (s.refloor ns).isLoaded = s.isLoaded := rfl
@[simp] theorem State.recordCount_refloor : (s.refloor ns).recordCount = s.recordCount := rfl
@[simp] theorem State.exempt_refloor : (s.refloor ns).exempt m = s.exempt m := rfl
@[simp] theorem State.countedTargets_refloor : (s.refloor ns).countedTargets ms = s.countedTargets ms := rfl
@[simp] theorem State.floorOf_refloor : (s.refloor ns).floorOf ms = s.floorOf ms := rfl
@[simp] theorem State.alignedAt_refloor : (s.refloor ns).alignedAt q = s.alignedAt q := rfl
@[simp] theorem State.anyHeld_refloor : (s.refloor ns).anyHeld = s.anyHeld := rfl
@[simp] theorem State.page_refloor : (s.refloor ns).page m = s.page m := rfl
@[simp] theorem State.statusOf_refloor : (s.refloor ns).statusOf m = s.statusOf m := rfl
@[simp] theorem State.validProfile_refloor : (s.refloor ns).validProfile m = s.validProfile m := rfl
@[simp] theorem State.writeInFlight_refloor : (s.refloor ns).writeInFlight = s.writeInFlight := rfl
@[simp] theorem State.stageCount_refloor : (s.refloor ns).stageCount g = s.stageCount g := rfl
@[simp] theorem State.snapshot_refloor : (s.refloor ns).snapshot m = s.snapshot m := rfl

/-! ### putAnswer -/

@[simp] theorem State.record_putAnswer : (s.putAnswer n code a).record m = s.record m := rfl
@[simp] theorem State.station_putAnswer : (s.putAnswer n code a).station q = s.station q := rfl
@[simp] theorem State.link_putAnswer : (s.putAnswer n code a).link p = s.link p := rfl
@[simp] theorem State.source_putAnswer : (s.putAnswer n code a).source j = s.source j := rfl
@[simp] theorem State.consist_putAnswer : (s.putAnswer n code a).consist = s.consist := rfl
@[simp] theorem State.isLoaded_putAnswer : (s.putAnswer n code a).isLoaded = s.isLoaded := rfl
@[simp] theorem State.recordCount_putAnswer : (s.putAnswer n code a).recordCount = s.recordCount := rfl
@[simp] theorem State.exempt_putAnswer : (s.putAnswer n code a).exempt m = s.exempt m := rfl
@[simp] theorem State.bogieGroup_putAnswer : (s.putAnswer n code a).bogieGroup m = s.bogieGroup m := rfl
@[simp] theorem State.carGroup_putAnswer : (s.putAnswer n code a).carGroup m = s.carGroup m := rfl
@[simp] theorem State.countedTargets_putAnswer : (s.putAnswer n code a).countedTargets ms = s.countedTargets ms := rfl
@[simp] theorem State.floorOf_putAnswer : (s.putAnswer n code a).floorOf ms = s.floorOf ms := rfl
@[simp] theorem State.alignedAt_putAnswer : (s.putAnswer n code a).alignedAt q = s.alignedAt q := rfl
@[simp] theorem State.anyHeld_putAnswer : (s.putAnswer n code a).anyHeld = s.anyHeld := rfl
@[simp] theorem State.page_putAnswer : (s.putAnswer n code a).page m = s.page m := rfl
@[simp] theorem State.statusOf_putAnswer : (s.putAnswer n code a).statusOf m = s.statusOf m := rfl
@[simp] theorem State.validProfile_putAnswer : (s.putAnswer n code a).validProfile m = s.validProfile m := rfl
@[simp] theorem State.writeInFlight_putAnswer : (s.putAnswer n code a).writeInFlight = s.writeInFlight := rfl
@[simp] theorem State.stageCount_putAnswer : (s.putAnswer n code a).stageCount g = s.stageCount g := rfl
@[simp] theorem State.snapshot_putAnswer : (s.putAnswer n code a).snapshot m = s.snapshot m := rfl

/-! ### answerCommand -/

@[simp] theorem State.record_answerCommand : (s.answerCommand i a).record m = s.record m := rfl
@[simp] theorem State.station_answerCommand : (s.answerCommand i a).station q = s.station q := rfl
@[simp] theorem State.link_answerCommand : (s.answerCommand i a).link p = s.link p := rfl
@[simp] theorem State.source_answerCommand : (s.answerCommand i a).source j = s.source j := rfl
@[simp] theorem State.consist_answerCommand : (s.answerCommand i a).consist = s.consist := rfl
@[simp] theorem State.isLoaded_answerCommand : (s.answerCommand i a).isLoaded = s.isLoaded := rfl
@[simp] theorem State.recordCount_answerCommand : (s.answerCommand i a).recordCount = s.recordCount := rfl
@[simp] theorem State.exempt_answerCommand : (s.answerCommand i a).exempt m = s.exempt m := rfl
@[simp] theorem State.bogieGroup_answerCommand : (s.answerCommand i a).bogieGroup m = s.bogieGroup m := rfl
@[simp] theorem State.carGroup_answerCommand : (s.answerCommand i a).carGroup m = s.carGroup m := rfl
@[simp] theorem State.countedTargets_answerCommand : (s.answerCommand i a).countedTargets ms = s.countedTargets ms := rfl
@[simp] theorem State.floorOf_answerCommand : (s.answerCommand i a).floorOf ms = s.floorOf ms := rfl
@[simp] theorem State.alignedAt_answerCommand : (s.answerCommand i a).alignedAt q = s.alignedAt q := rfl
@[simp] theorem State.anyHeld_answerCommand : (s.answerCommand i a).anyHeld = s.anyHeld := rfl
@[simp] theorem State.page_answerCommand : (s.answerCommand i a).page m = s.page m := rfl
@[simp] theorem State.statusOf_answerCommand : (s.answerCommand i a).statusOf m = s.statusOf m := rfl
@[simp] theorem State.validProfile_answerCommand : (s.answerCommand i a).validProfile m = s.validProfile m := rfl
@[simp] theorem State.writeInFlight_answerCommand : (s.answerCommand i a).writeInFlight = s.writeInFlight := rfl
@[simp] theorem State.stageCount_answerCommand : (s.answerCommand i a).stageCount g = s.stageCount g := rfl
@[simp] theorem State.snapshot_answerCommand : (s.answerCommand i a).snapshot m = s.snapshot m := rfl
end Sys2Proof.Machine
end

