-- ==== Sys2Proof/Laws/Taking.lean ====
section
/-! SUPPORT. What the shared operations around a block's own rule do: flagging conditions that started (R208), taking a host command
(R202), taking a request from an inbox (R173), and the queue. -/
namespace Sys2Proof.Machine

/-! ## Conditions that start -/

/-- An update of the sources leaves every condition as it was: no condition reads a source (R208). -/
@[simp] theorem State.condition_setSource (s : State) (k j : Source) (x : SourceState) : (s.setSource k x).condition j = s.condition j := by
  cases j <;> rfl

@[simp] theorem State.condition_flag (s : State) (k j : Source) : (s.flag k).condition j = s.condition j := by cases j <;> rfl

/-- Flagging one condition source, or not, touches the sources alone (R208). -/
theorem State.flagIfStarts_eq (b s : State) (k : Source) :
    State.flagIfStarts b s k = s ∨ State.flagIfStarts b s k = s.flag k := by
  unfold State.flagIfStarts; split <;> simp

/-- The flags a step sets for its conditions stand in the sources alone (R208). -/
theorem State.flagStarts_attention (b s : State) : State.flagStarts b s = { s with attention := (State.flagStarts b s).attention } := by
  simp only [State.flagStarts, List.foldl_cons, List.foldl_nil]
  rcases State.flagIfStarts_eq b s .blocked with h | h <;> rw [h] <;>
    rcases State.flagIfStarts_eq b _ .reopened with h | h <;> rw [h] <;>
    rcases State.flagIfStarts_eq b _ .moveWaiting with h | h <;> rw [h] <;>
    rcases State.flagIfStarts_eq b _ .visitSettled with h | h <;> rw [h] <;> rfl

/-- A step that starts no condition flags none (R208). -/
theorem State.flagStarts_of_no_start (b s : State) (h : ∀ k : Source, s.condition k = true → b.condition k = true) :
    State.flagStarts b s = s := by
  have one : ∀ k, State.flagIfStarts b s k = s := by
    intro k
    unfold State.flagIfStarts
    by_cases hk : s.condition k = true
    · simp [hk, h k hk]
    · simp [hk]
  simp [State.flagStarts, one]

@[simp] theorem State.flagStarts_self (s : State) : State.flagStarts s s = s := State.flagStarts_of_no_start s s (fun _ h => h)

/-- The fields that a condition reads (R208): records, reopen list, move state and visit. -/
theorem State.condition_congr {s t : State} (hr : t.records = s.records) (hl : t.reopenList = s.reopenList) (hm : t.moveState = s.moveState)
    (hv : t.visit = s.visit) (k : Source) : t.condition k = s.condition k := by
  have recs : ∀ n, t.record n = s.record n := fun n => by simp only [State.record, hr]
  have loaded : t.isLoaded = s.isLoaded := by simp only [State.isLoaded, hv]
  have count : t.recordCount = s.recordCount := by simp only [State.recordCount, State.consist, hv]
  cases k <;> simp only [State.condition, State.settled, recs, loaded, count, hl, hm]

/-- A step that writes none of the fields a condition reads flags none (R208). -/
theorem State.flagStarts_of_same {s t : State} (hr : t.records = s.records) (hl : t.reopenList = s.reopenList)
    (hm : t.moveState = s.moveState) (hv : t.visit = s.visit) : State.flagStarts s t = t :=
  State.flagStarts_of_no_start s t (fun k h => by rwa [State.condition_congr hr hl hm hv k] at h)

/-! ## Host commands -/

/-- A running part takes a host command in the step that ends its window (R202). -/
theorem portCommand_running {i : Instr} {owner : State → Taken} {s : State} (h : s.phase = .running) :
    portCommand i owner s = .next ((State.flagStarts s (owner s).1).answerCommand i (owner s).2) := by
  simp only [portCommand, h]

/-- A part that is STARTING answers STARTING (R201). -/
theorem portCommand_starting {i : Instr} {owner : State → Taken} {s : State} (h : s.phase = .starting) :
    portCommand i owner s = .next (s.answerCommand i { reason := .starting, body := [] }) := by
  simp only [portCommand, h, Reply.bare]

/-- While RESET is asserted the port takes no window (R200). -/
theorem portCommand_reset {i : Instr} {owner : State → Taken} {s : State} (h : s.phase = .resetAsserted) :
    portCommand i owner s = .next s := by
  simp only [portCommand, h]

/-- A refused host command writes its answer and nothing else (R4, R202). -/
theorem portCommand_unchanged {i : Instr} {owner : State → Taken} {s : State} {r : Reply} (h : s.phase = .running) (ho : owner s = (s, r)) :
    portCommand i owner s = .next (s.answerCommand i r) := by
  rw [portCommand_running h, ho, State.flagStarts_self]

/-! ## Requests from an inbox -/

/-- The oldest untaken request is taken and answered (R173). -/
theorem serve_some {l : LinkId} {k : RequestKind} {owner : List Byte → State → Taken} {s : State} {f : InboxFrame}
    (h : s.nextRequest l k = some f) :
    serve l k owner s = .next ((State.flagStarts s (owner f.payload s).1).answerInbox l f (owner f.payload s).2) := by
  simp only [serve, h]

/-- With no such request nothing changes (log 2). -/
theorem serve_none {l : LinkId} {k : RequestKind} {owner : List Byte → State → Taken} {s : State} (h : s.nextRequest l k = none) :
    serve l k owner s = .next s := by
  simp only [serve, h]

/-- A refused request writes its answer and nothing else (R4, R173). -/
theorem serve_unchanged {l : LinkId} {k : RequestKind} {owner : List Byte → State → Taken} {s : State} {f : InboxFrame} {r : Reply}
    (h : s.nextRequest l k = some f) (ho : owner f.payload s = (s, r)) : serve l k owner s = .next (s.answerInbox l f r) := by
  rw [serve_some h, ho, State.flagStarts_self]

/-- What a request that can be taken says of its link and frame (R173). -/
theorem nextRequest_some {s : State} {l : LinkId} {k : RequestKind} {f : InboxFrame} (h : s.nextRequest l k = some f) :
    (s.link l).state = .up ∧ (s.link l).oldestUntaken = some f ∧ f.kind = k := by
  unfold State.nextRequest at h
  split at h
  · rename_i hup
    split at h
    · rename_i g hg
      split at h
      · rename_i hk
        cases h
        exact ⟨by simpa using hup, hg, by simpa using hk⟩
      · cases h
    · cases h
  · cases h

/-- A station's request with its cursor closed first (R118). -/
theorem serveStation_some {st : StationId} {k : RequestKind} {owner : StationId → List Byte → State → Taken} {s : State} {f : InboxFrame}
    (h : s.nextRequest (stationLink st) k = some f) :
    serveStation st k owner s = .next ((State.flagStarts s (owner st f.payload (s.closeCursor st)).1).answerInbox (stationLink st) f
      (owner st f.payload (s.closeCursor st)).2) := serve_some h

/-- A station's request that changes nothing but the cursor (R4, R118). -/
theorem serveStation_refused {st : StationId} {k : RequestKind} {owner : StationId → List Byte → State → Taken} {s : State}
    {f : InboxFrame} {r : Reply} (h : s.nextRequest (stationLink st) k = some f)
    (ho : owner st f.payload (s.closeCursor st) = (s.closeCursor st, r)) :
    serveStation st k owner s = .next ((s.closeCursor st).answerInbox (stationLink st) f r) := by
  rw [serveStation_some h, ho]
  congr 2
  exact State.flagStarts_of_same (by simp [State.closeCursor, State.modStation_eq]) (by simp [State.closeCursor, State.modStation_eq])
    (by simp [State.closeCursor, State.modStation_eq]) (by simp [State.closeCursor, State.modStation_eq])

/-! ## The queue -/

/-- With a command in front the block runs it on the queue's rest (log 1). -/
theorem step_cons {s : State} {c : Instr} {rest : List Instr} (h : s.pending = c :: rest) : step s = exec c { s with pending := rest } := by
  simp only [step, h]

end Sys2Proof.Machine
end

