-- ==== Sys2Proof/Laws/Links.lean ====
section
/-! SUPPORT. What the shared operations over an inbox and an outgoing list do, and what a hold reported free or a watch counted down does. -/
namespace Sys2Proof.Machine

/-! ## The inbox -/

/-- The oldest untaken frame splits its inbox, every older frame answered; marking it answers that frame alone (R173). -/
theorem markOldest_split {fs : List InboxFrame} {f : InboxFrame} (h : fs.find? (fun g => !g.answered) = some f) :
    ∃ older newer, fs = older ++ f :: newer ∧ (∀ g ∈ older, g.answered = true) ∧ f.answered = false
      ∧ markOldest fs = older ++ { f with answered := true } :: newer := by
  induction fs with
  | nil => cases h
  | cons g rest ih =>
    by_cases hg : g.answered = true
    · rw [List.find?_cons_of_neg (by simp [hg])] at h
      obtain ⟨older, newer, rfl, h1, h2, h3⟩ := ih h
      exact ⟨g :: older, newer, rfl, by simpa [hg] using h1, h2, by simp [markOldest, hg, h3]⟩
    · rw [List.find?_cons_of_pos (by simp [hg])] at h
      cases h
      exact ⟨[], rest, rfl, by simp, by simpa using hg, by simp [markOldest, hg]⟩

/-- Marking changes no frame but for its mark (R173). -/
theorem length_markOldest (fs : List InboxFrame) : (markOldest fs).length = fs.length := by
  induction fs with
  | nil => rfl
  | cons f rest ih => unfold markOldest; split <;> simp [ih]

/-- Where the oldest frame is answered it is the one removed at the end of its answer's transmission (R174). -/
theorem removeAnswered_cons (f : InboxFrame) (rest : List InboxFrame) (h : f.answered = true) : removeAnswered (f :: rest) = rest := by
  simp [removeAnswered, h]

/-- An answer marks a frame and appends one outgoing frame; the link's other fields stand (R173). -/
theorem LinkContext.answerOldest_eq (c : LinkContext) (f : InboxFrame) (r : Reply) :
    c.answerOldest f r = { c with inbox := markOldest c.inbox, outgoing := c.outgoing ++ [answerTo f r] } := rfl

/-! ## The outgoing list -/

/-- How many frames of an origin wait after one more is appended (R171, R178). -/
theorem LinkContext.waiting_send (c : LinkContext) (f : OutFrame) (o : Origin) :
    (c.send f).waiting o = c.waiting o + if f.origin = o then 1 else 0 := by
  unfold LinkContext.send LinkContext.waiting
  by_cases h : f.origin = o <;> simp [h]

/-- An interface answer is appended while fewer than four wait, and else lost; nothing else of the link changes (R171). -/
theorem LinkContext.interfaceAnswer_cases (c : LinkContext) (kind : Byte) (tag : Tag) (r : Reply) :
    (c.waiting .interfaceAnswer < 4 ∧ c.interfaceAnswer kind tag r
        = { c with outgoing := c.outgoing ++ [{ origin := .interfaceAnswer, kind := kind, tag := tag, payload := r.bytes }] })
      ∨ (4 ≤ c.waiting .interfaceAnswer ∧ c.interfaceAnswer kind tag r = c) := by
  unfold LinkContext.interfaceAnswer
  split
  · left; exact ⟨by assumption, rfl⟩
  · rename_i hw; right; exact ⟨Nat.le_of_not_lt hw, rfl⟩

/-- Never more than four interface answers wait, where no more did (R171). -/
theorem LinkContext.waiting_interfaceAnswer (c : LinkContext) (kind : Byte) (tag : Tag) (r : Reply)
    (h : c.waiting .interfaceAnswer ≤ 4) : (c.interfaceAnswer kind tag r).waiting .interfaceAnswer ≤ 4 := by
  unfold LinkContext.interfaceAnswer
  split
  · rename_i hw
    rw [LinkContext.waiting_send]
    simp only [if_true]
    exact hw
  · exact h

/-- Dropping the first order of a list that has one splits the list at that order (R178). -/
theorem dropFirstOrder_split (fs : List OutFrame) (h : (fs.filter (fun f => f.origin == .order)).length ≠ 0) :
    ∃ front lost back, fs = front ++ lost :: back ∧ lost.origin = .order ∧ (∀ g ∈ front, g.origin ≠ .order)
      ∧ dropFirstOrder fs = front ++ back := by
  induction fs with
  | nil => exact absurd rfl h
  | cons f rest ih =>
    by_cases hf : f.origin = .order
    · exact ⟨[], f, rest, rfl, hf, by simp, by simp [dropFirstOrder, hf]⟩
    · obtain ⟨front, lost, back, rfl, h1, h2, h3⟩ := ih (by simpa [hf] using h)
      exact ⟨f :: front, lost, back, rfl, h1, by simpa [hf] using h2, by simp [dropFirstOrder, hf, h3]⟩

/-- An order changes the outgoing list alone (R178). -/
theorem LinkContext.order_outgoing (c : LinkContext) (o : Order) (n : Nat) :
    c.order o n = { c with outgoing := (c.order o n).outgoing } := by
  unfold LinkContext.order LinkContext.dropOrder LinkContext.send
  split
  · rfl
  · split <;> rfl

/-! ## Motion and the watch -/

/-- A hold reported free grants a pending move exactly when no record is held, and else changes nothing (R154). -/
theorem State.holdFreed_cases (s : State) :
    (s.moveState = .pending ∧ s.stationA.held = none ∧ s.stationB.held = none ∧ s.holdFreed = s.grantMove)
      ∨ (¬ (s.moveState = .pending ∧ s.stationA.held = none ∧ s.stationB.held = none) ∧ s.holdFreed = s) := by
  unfold State.holdFreed State.anyHeld
  cases s.stationA.held <;> cases s.stationB.held <;> by_cases h : s.moveState = .pending <;> simp [h]

/-- A watch that does not count is left; one at 1 expires; any other goes down by one (R131 to R133). -/
theorem State.countDown_cases (s : State) (st : StationId) :
    ((s.station st).counting = false ∧ s.countDown st = s)
      ∨ ((s.station st).counting = true ∧ (s.station st).watch = 1 ∧ s.countDown st = s.expire st)
      ∨ ((s.station st).counting = true ∧ (s.station st).watch ≠ 1
          ∧ s.countDown st = s.setStation st { s.station st with watch := (s.station st).watch - 1 }) := by
  unfold State.countDown
  by_cases hc : (s.station st).counting = true
  · by_cases hw : (s.station st).watch = 1
    · right; left; exact ⟨hc, hw, by simp [hc, hw]⟩
    · right; right; exact ⟨hc, hw, by simp [hc, hw, State.modStation_eq]⟩
  · left; exact ⟨by simpa using hc, by simp [hc]⟩

end Sys2Proof.Machine
end

