-- ==== Sys2Proof/Laws/Planner.lean ====
section
/-! SUPPORT. What the planner's shared operations do: the floors, a holder's grant, a condemnation, a block, an applied evaluation; the
frame of a whole evaluation; and that the writes an arrival makes before its evaluation keep the laws of the groups. -/
namespace Sys2Proof.Machine

/-! ## Floors and lists -/

/-- A group keeps everything but its floor when floors are recomputed (R51). -/
theorem refloorGroup_floorless (s : State) (ns : List Nat) (g : Group) : { s.refloorGroup ns g with floor := g.floor } = g := by
  unfold State.refloorGroup; split <;> rfl

/-- The floor of a group with a changed member is the lowest counted target; the floor of any other group stands (R51). -/
theorem refloorGroup_floor (s : State) (ns : List Nat) (g : Group) :
    (s.refloorGroup ns g).floor = if g.members.any (fun m => ns.contains m) then s.floorOf g.members else g.floor := by
  unfold State.refloorGroup; split <;> simp_all

/-- An ordinal taken off the reopen list is not in it, and the others stand (R69). -/
theorem mem_unlist (s : State) (n m : Nat) : m ∈ (s.unlist n).reopenList ↔ m ∈ s.reopenList ∧ m ≠ n := by simp [State.unlist]

/-! ## The holder's grant -/

/-- The grant of the station that holds a record is cleared; a record that is not held changes nothing (R24). -/
theorem State.clearHolderGrant_eq (s : State) (n : Nat) :
    s.clearHolderGrant n = match (s.record n).holder with
      | none => s
      | some st => s.setStation st { s.station st with grant := none } := rfl

/-- Clearing a grant touches the grants alone (R24). -/
theorem State.clearHolderGrant_grants (s : State) (n : Nat) :
    s.clearHolderGrant n = { s with
      stationA := { s.stationA with grant := (s.clearHolderGrant n).stationA.grant }
      stationB := { s.stationB with grant := (s.clearHolderGrant n).stationB.grant } } := by
  rw [State.clearHolderGrant_eq]
  split
  · rfl
  · rename_i st _; cases st <;> rfl

@[simp] theorem State.records_clearHolderGrant (s : State) (n : Nat) : (s.clearHolderGrant n).records = s.records := by
  rw [State.clearHolderGrant_grants]

@[simp] theorem State.record_clearHolderGrant (s : State) (n m : Nat) : (s.clearHolderGrant n).record m = s.record m := by
  simp [State.record]

@[simp] theorem State.reopenList_clearHolderGrant (s : State) (n : Nat) : (s.clearHolderGrant n).reopenList = s.reopenList := by
  rw [State.clearHolderGrant_grants]

@[simp] theorem State.bogieGroups_clearHolderGrant (s : State) (n : Nat) : (s.clearHolderGrant n).bogieGroups = s.bogieGroups := by
  rw [State.clearHolderGrant_grants]

@[simp] theorem State.carGroups_clearHolderGrant (s : State) (n : Nat) : (s.clearHolderGrant n).carGroups = s.carGroups := by
  rw [State.clearHolderGrant_grants]

@[simp] theorem State.attention_clearHolderGrant (s : State) (n : Nat) : (s.clearHolderGrant n).attention = s.attention := by
  rw [State.clearHolderGrant_grants]

@[simp] theorem State.limits_clearHolderGrant (s : State) (n : Nat) : (s.clearHolderGrant n).limits = s.limits := by
  rw [State.clearHolderGrant_grants]

/-! ## The frame of an evaluation -/

/-- `t` is `s` but for what a planning evaluation may write: records, floors, the reopen list, attention flags and grants (R54). -/
def PlanFrame (s t : State) : Prop :=
  t = { s with records := t.records, bogieGroups := t.bogieGroups, carGroups := t.carGroups, reopenList := t.reopenList,
               attention := t.attention, stationA := { s.stationA with grant := t.stationA.grant },
               stationB := { s.stationB with grant := t.stationB.grant } }

theorem PlanFrame.refl (s : State) : PlanFrame s s := rfl

theorem PlanFrame.trans {s t u : State} (h : PlanFrame s t) (k : PlanFrame t u) : PlanFrame s u := by
  unfold PlanFrame at h k ⊢
  rw [k, h]

theorem planFrame_clearHolderGrant (s : State) (n : Nat) : PlanFrame s (s.clearHolderGrant n) := by
  unfold PlanFrame
  conv => lhs; rw [State.clearHolderGrant_grants]
  simp

theorem planFrame_modRecord (s : State) (n : Nat) (f : Record → Record) : PlanFrame s (s.modRecord n f) := rfl

theorem planFrame_unlist (s : State) (n : Nat) : PlanFrame s (s.unlist n) := rfl

theorem planFrame_reopenList (s : State) (l : List Nat) : PlanFrame s { s with reopenList := l } := rfl

theorem planFrame_refloor (s : State) (ns : List Nat) : PlanFrame s (s.refloor ns) := rfl

theorem planFrame_flag (s : State) (k : Source) : PlanFrame s (s.flag k) := rfl

/-- A condemnation writes one record, the list, floors, a grant and a flag (R12, R19, R24, R56). -/
theorem planFrame_condemn (s : State) (n : Nat) (c : CondemnCause) : PlanFrame s (s.condemn n c) :=
  (planFrame_clearHolderGrant s n).trans
    ((planFrame_modRecord _ n _).trans ((planFrame_unlist _ n).trans ((planFrame_refloor _ _).trans (planFrame_flag _ _))))

/-- The record a condemnation writes (R56). -/
theorem record_condemn (s : State) (n m : Nat) (c : CondemnCause) :
    (s.condemn n c).record m = if m = n ∧ 1 ≤ n ∧ n ≤ 64 then
      { s.record n with stage := .condemned, condemnCause := some c, blocked := none, verified := false } else s.record m := by
  simp [State.condemn, State.modRecord_eq, State.record_setRecord]

/-- A block writes one record, the list and a grant (R62). -/
theorem planFrame_block (s : State) (n t : Nat) (o : Nat × BlockReason) : PlanFrame s (s.block n t o) :=
  (planFrame_clearHolderGrant s n).trans ((planFrame_modRecord _ n _).trans (planFrame_unlist _ n))

/-- The record a block writes (R62). -/
theorem record_block (s : State) (n m t : Nat) (o : Nat × BlockReason) :
    (s.block n t o).record m = if m = n ∧ 1 ≤ n ∧ n ≤ 64 then
      { s.record n with stage := .blocked, blocked := some { heldBack := t, reason := o.2, blocker := o.1 }, verified := false }
    else s.record m := by
  simp [State.block, State.modRecord_eq, State.record_setRecord]

theorem planFrame_lower (s : State) (v : LimitValues) (ls : List Lowering) :
    PlanFrame s (ls.foldl (fun u l => u.modRecord l.ordinal (fun r => r.lowered v l.target)) s) := by
  induction ls generalizing s with
  | nil => exact PlanFrame.refl s
  | cons l rest ih => exact (planFrame_modRecord s l.ordinal _).trans (ih _)

/-- An applied evaluation writes records, the list and floors (R63 to R65). -/
theorem planFrame_applyEvaluation (s : State) (n : Nat) (h : Handed) (t : Nat) (ls : List Lowering) :
    PlanFrame s (s.applyEvaluation n h t ls) := by
  have records : PlanFrame s (s.applyRecords n h t ls) := (planFrame_lower s s.limits ls).trans (planFrame_modRecord _ _ _)
  unfold State.applyEvaluation
  simp only
  split
  · exact (records.trans (planFrame_reopenList _ _)).trans ((planFrame_unlist _ n).trans (planFrame_refloor _ _))
  · exact (records.trans (planFrame_reopenList _ _)).trans (planFrame_refloor _ _)

/-- A planning evaluation touches nothing but what `PlanFrame` names (R54 to R65). -/
theorem planFrame_evaluate (s : State) (n : Nat) (h : Handed) : PlanFrame s (s.evaluate n h) := by
  unfold State.evaluate
  split
  · exact PlanFrame.refl s
  · split
    · exact planFrame_condemn s n _
    · unfold State.plan
      simp only
      split
      · exact planFrame_block s n _ _
      · exact planFrame_applyEvaluation s n h _ _

theorem planFrame_evaluateMeasured (s : State) (n : Nat) : PlanFrame s (s.evaluateMeasured n) := by
  unfold State.evaluateMeasured
  split
  · exact PlanFrame.refl s
  · exact (planFrame_modRecord s n _).trans (planFrame_evaluate _ n _)

theorem planFrame_evaluateOvercut (s : State) (n d : Nat) : PlanFrame s (s.evaluateOvercut n d) :=
  (planFrame_modRecord s n _).trans (planFrame_evaluate _ n _)

/-! ## The laws of the groups before an evaluation -/

/-- The laws of the groups speak of the limits, the visit, the groups and the counted targets alone (R48, R50, R51, R52). -/
theorem groupsSafe_of_countedTargets {s t : State} (limits : t.limits = s.limits) (visit : t.visit = s.visit)
    (bogies : t.bogieGroups = s.bogieGroups) (cars : t.carGroups = s.carGroups)
    (counted : ∀ m, (t.record m).counted = (s.record m).counted) (target : ∀ m, (t.record m).target = (s.record m).target)
    (safe : s.GroupsSafe) : t.GroupsSafe := by
  have targets : t.countedTargets = s.countedTargets := by
    funext ms
    simp only [State.countedTargets, counted, target]
  have consist : t.consist = s.consist := by simp only [State.consist, visit]
  simpa only [State.GroupsSafe, State.GroupSafe, State.floorOf, limits, bogies, cars, targets, consist] using safe

/-- A write that leaves a record's target, stage and waived mark keeps the laws of the groups (R50 to R52). -/
theorem groupsSafe_modRecord (s : State) (n : Nat) (f : Record → Record) (target : ∀ r, (f r).target = r.target)
    (stage : ∀ r, (f r).stage = r.stage) (waived : ∀ r, (f r).waived = r.waived) (safe : s.GroupsSafe) : (s.modRecord n f).GroupsSafe := by
  have written : ∀ m, (s.modRecord n f).record m = if m = n ∧ 1 ≤ n ∧ n ≤ 64 then f (s.record m) else s.record m := fun m => by
    rw [State.modRecord_eq, State.record_setRecord]
    split <;> simp_all
  refine groupsSafe_of_countedTargets (s := s) rfl rfl rfl rfl (fun m => ?_) (fun m => ?_) safe <;> rw [written] <;> split <;>
    simp [Record.counted, target, stage, waived]

/-- Step 1 of an evaluation keeps the laws of the groups (R31, R55). -/
theorem groupsSafe_writeAssessment (s : State) (n : Nat) (a : Assessment) (safe : s.GroupsSafe) : (s.writeAssessment n a).GroupsSafe :=
  groupsSafe_modRecord s n _ (fun _ => rfl) (fun _ => rfl) (fun _ => rfl) safe

/-- The writes of an accepted GAUGE REPORT before its evaluation keep the laws of the groups, at a record's first report too (R105, R108). -/
theorem groupsSafe_storeReport (s : State) (n : Nat) (m : Measurement) (serial : Option Nat) (safe : s.GroupsSafe) :
    (s.storeReport n m serial).GroupsSafe := by
  have stored : (s.storeSerial n serial).GroupsSafe := by
    unfold State.storeSerial
    split
    · exact groupsSafe_modRecord s n (fun r => { r with serial := some _ }) (fun _ => rfl) (fun _ => rfl) (fun _ => rfl) safe
    · exact safe
    · exact safe
  exact groupsSafe_modRecord (s.storeSerial n serial) n
    (fun r => { r with measured := some { block := m, source := .gauge }, doubtful := false }) (fun _ => rfl) (fun _ => rfl) (fun _ => rfl) stored

end Sys2Proof.Machine
end

