-- ==== Sys2Proof/Laws/Wire.lean ====
section
/-! SUPPORT. Numbers on the wire and back, and what a receiver makes of the bytes of a frame: a proof about bytes cites these and unfolds
neither `be`, `fromBe` nor `Receiver.run`. -/
namespace Sys2Proof

/-! ## Numbers -/

/-- A number in k bytes has k bytes (R214). -/
@[simp] theorem length_be (k n : Nat) : (be k n).length = k := by induction k <;> simp_all [be]

/-- Bytes put before others count for 256 to the power of the others' number (R214). -/
theorem fromBe_append (front back : List Byte) : fromBe (front ++ back) = fromBe front * 256 ^ back.length + fromBe back := by
  unfold fromBe
  induction back using List.reverseRecOn with
  | nil => simp
  | append_singleton back x ih =>
    rw [← List.append_assoc, List.foldl_append, ih, List.foldl_append]
    simp [Nat.pow_succ]; ring

/-- A number spelled by bytes fits them (R214). -/
theorem fromBe_lt (bytes : List Byte) : fromBe bytes < 256 ^ bytes.length := by
  induction bytes using List.reverseRecOn with
  | nil => simp [fromBe]
  | append_singleton back x ih => rw [fromBe_append]; simp [fromBe, Nat.pow_succ] at *; have := x.isLt; omega

/-- A number sent in k bytes reads back, cut to k bytes (R214). -/
theorem fromBe_be (k n : Nat) : fromBe (be k n) = n % 256 ^ k := by
  induction k with
  | zero => simp [be, fromBe, Nat.mod_one]
  | succ k ih =>
    have h : be (k + 1) n = [BitVec.ofNat 8 (n / 256 ^ k)] ++ be k n := rfl
    rw [h, fromBe_append, ih, length_be]
    simp [fromBe]
    rw [Nat.pow_succ, Nat.mod_mul, Nat.mul_comm (256 ^ k), Nat.add_comm]

/-- What lies above k bytes is not sent (R214). -/
theorem be_above (k a n : Nat) : be k (a * 256 ^ k + n) = be k n := by
  induction k generalizing a n with
  | zero => rfl
  | succ k ih =>
    simp only [be]
    congr 1
    · apply BitVec.eq_of_toNat_eq
      simp only [BitVec.toNat_ofNat]
      have : a * 256 ^ (k + 1) + n = n + 256 ^ k * (a * 256) := by ring
      rw [this, Nat.add_mul_div_left _ _ (by positivity)]
      omega
    · have : a * 256 ^ (k + 1) + n = a * 256 * 256 ^ k + n := by ring
      rw [this, ih]

/-- Bytes read as a number and sent again are the same bytes (R214). -/
theorem be_fromBe (bytes : List Byte) : be bytes.length (fromBe bytes) = bytes := by
  induction bytes with
  | nil => rfl
  | cons x rest ih =>
    have h : fromBe (x :: rest) = x.toNat * 256 ^ rest.length + fromBe rest := by
      have := fromBe_append [x] rest; simpa [fromBe] using this
    simp only [List.length_cons, be]
    rw [h, be_above, ih]
    congr 1
    apply BitVec.eq_of_toNat_eq
    rw [Nat.add_comm, Nat.add_mul_div_right _ _ (by positivity), Nat.div_eq_of_lt (fromBe_lt rest)]
    simp

/-- The check code is the register taken through the covered bytes in order, from all ones (R168). -/
theorem crc_eq_foldl (covered : List Byte) : crc covered = covered.foldl crcByte 0xFFFF#16 := by
  suffices ∀ c, crcFrom c covered = covered.foldl crcByte c from this _
  induction covered with
  | nil => intro c; rfl
  | cons b rest ih => intro c; exact ih (crcByte c b)

namespace Machine

/-! ## The receiver -/

/-- A start marker begins a frame, late or not (R168). -/
theorem Receiver.run_marker (l : LinkId) (late : Bool) (rest : List LineEvent) :
    Receiver.run l .hunting (.byte late Config.cellStartMarker :: rest) = Receiver.run l (.inFrame []) rest := by
  simp [Receiver.run, Receiver.on, Receiver.take, hunt]

/-- Bytes in time after which no frame is complete and no length refused are kept, and give no command (R168). -/
theorem Receiver.run_inFrame (l : LinkId) (bytes : List Byte) : ∀ (before : List Byte) (rest : List LineEvent),
    (∀ k, 0 < k → k ≤ bytes.length → lengthRefused (before ++ bytes.take k) = false ∧ assembled (before ++ bytes.take k) = none) →
    Receiver.run l (.inFrame before) (bytes.map (.byte false) ++ rest) = Receiver.run l (.inFrame (before ++ bytes)) rest := by
  induction bytes with
  | nil => intros; simp
  | cons b bytes ih =>
    intro before rest h
    have first : lengthRefused (before ++ [b]) = false ∧ assembled (before ++ [b]) = none := h 1 (by omega) (by simp)
    have others := ih (before ++ [b]) rest (fun k h0 hk => by simpa using h (k + 1) (by omega) (by simpa using hk))
    simp only [List.map_cons, List.cons_append, Receiver.run, Receiver.on, Receiver.take, Bool.false_eq_true, if_false, first.1, first.2,
      Option.toList_none, List.nil_append]
    simpa using others

/-- The bytes of a whole frame make that frame (R168). -/
theorem assembled_frame (f : CellFrame) (h : f.payload.length ≤ 200) :
    assembled ([f.kind, f.tag, BitVec.ofNat 8 f.payload.length] ++ f.payload ++ be 2 f.check.toNat) = some f := by
  have length : f.payload.length % 256 = f.payload.length := by omega
  have check := f.check.isLt
  simp [assembled, length]
  simp [fromBe_be, Nat.mod_eq_of_lt check]

/-- Until RESET ends an idle receiver takes no byte; then it hunts (R166). -/
theorem Receiver.run_idle (l : LinkId) (lost : List (Bool × Byte)) (rest : List LineEvent) :
    Receiver.run l .idle (lost.map (fun e => LineEvent.byte e.1 e.2) ++ .resetEnd :: rest) = Receiver.run l .hunting rest := by
  induction lost with
  | nil => simp [Receiver.run, Receiver.on, Receiver.start]
  | cons e rest ih => simpa [Receiver.run, Receiver.on, Receiver.take] using ih

end Machine

end Sys2Proof
end

