-- ==== Sys2Proof/Laws/Store.lean ====
section
/-! SUPPORT. What the shared operations of the store do: writing slots, the page as stored, the page written and the other pages, the first
item that fails. -/
namespace Sys2Proof.Machine

/-! ## Slots -/

/-- A slot that no point of the list names keeps its value (R190). -/
theorem writeSlots_unnamed (ps : List Point) (v : Vector Point 48) (start j : Nat)
    (h : ∀ k < ps.length, (start + k) % 48 ≠ j) : (writeSlots v start ps)[j]? = v[j]? := by
  induction ps generalizing v start with
  | nil => rfl
  | cons p rest ih =>
    have first : start % 48 ≠ j := by simpa using h 0 (by simp)
    have others : ∀ k < rest.length, (start + 1 + k) % 48 ≠ j := fun k hk => by
      have := h (k + 1) (by simp only [List.length_cons]; omega)
      rwa [Nat.add_assoc, Nat.add_comm 1 k]
    unfold writeSlots
    rw [ih _ _ others]
    simp [writeSlot, first]

/-- Point k of at most 48 stands in slot (start + k) modulo 48 (R190). -/
theorem writeSlots_named (ps : List Point) (v : Vector Point 48) (start k : Nat) (p : Point) (hl : ps.length ≤ 48)
    (h : ps[k]? = some p) : (writeSlots v start ps)[(start + k) % 48]? = some p := by
  induction ps generalizing v start k with
  | nil => simp at h
  | cons q rest ih =>
    have short : rest.length < 48 := by simp only [List.length_cons] at hl; omega
    unfold writeSlots
    cases k with
    | zero =>
      have : q = p := by simpa using h
      subst this
      rw [writeSlots_unnamed rest _ _ _ (fun i hi => by omega)]
      simp [writeSlot, Nat.mod_lt]
    | succ k =>
      have := ih (writeSlot v start q) (start + 1) k (by omega) (by simpa using h)
      rwa [Nat.add_assoc, Nat.add_comm 1 k] at this

/-! ## The page as stored -/

/-- Points take four bytes each (R218). -/
theorem length_points (ps : List Point) : (ps.flatMap pointBytes).length = 4 * ps.length := by
  induction ps with
  | nil => rfl
  | cons p rest ih => simp only [List.flatMap_cons, List.length_append, List.length_cons, ih]; simp [pointBytes]; omega

/-- A profile page has 206 bytes before its check code (R218). -/
@[simp] theorem length_profileBody (i : ProfileImage) : (profileBody i).length = 206 := by
  unfold profileBody
  rw [List.length_append, length_points]
  simp [headerBytes]

/-- A limits page has 29 bytes before its check code (R218). -/
@[simp] theorem length_limitsBody (v : LimitValues) : (limitsBody v).length = 29 := by simp [limitsBody, limitsBytes]

/-- A stored profile page has 208 bytes (R218). -/
theorem length_storedBytes_profile (i : ProfileImage) (c : CheckCode) : (storedBytes (.profile i c)).map List.length = some 208 := by
  simp [storedBytes]

/-- A stored limits page has 31 bytes (R218). -/
theorem length_storedBytes_limits (v : LimitValues) (c : CheckCode) : (storedBytes (.limits v c)).map List.length = some 31 := by
  simp [storedBytes]

/-- The check code of a profile page that the store wrote agrees (R183). -/
@[simp] theorem pageCheckAgrees_writtenProfile (i : ProfileImage) : pageCheckAgrees (writtenProfile i) = true := by
  simp [pageCheckAgrees, writtenProfile]

/-- The check code of a limits page that the store wrote agrees (R183). -/
@[simp] theorem pageCheckAgrees_writtenLimits (v : LimitValues) : pageCheckAgrees (writtenLimits v) = true := by
  simp [pageCheckAgrees, writtenLimits]

/-- A profile page the store wrote is VALID exactly where its values pass (R183). -/
theorem judge_writtenProfile (n : Nat) (i : ProfileImage) :
    judge n (writtenProfile i) = if n < 16 ∧ profileFault n i = none then .valid else .unusable := by
  simp [judge, writtenProfile, pageCheckAgrees, Config.limitsPage]

/-- A limits page the store wrote is VALID exactly where its values pass (R183, R184). -/
theorem judge_writtenLimits (n : Nat) (v : LimitValues) :
    judge n (writtenLimits v) = if n = 16 ∧ limitsFault v = none then .valid else .unusable := by
  simp [judge, writtenLimits, pageCheckAgrees, Config.limitsPage]

/-- What READ PAGE returns of a profile page is the front of its stored bytes: the header and the first point-count slots (R218). -/
theorem contentsBytes_profile (i : ProfileImage) (c : CheckCode) :
    ∃ rest, storedBytes (.profile i c) = some (contentsBytes (.profile i c) ++ rest) := by
  refine ⟨(i.slots.toList.drop i.header.pointCount).flatMap pointBytes ++ be 2 c.toNat, ?_⟩
  simp only [storedBytes, profileBody, contentsBytes, imagePoints, Option.some.injEq, List.append_assoc]
  rw [← List.append_assoc (List.flatMap _ _), ← List.flatMap_append, List.take_append_drop]

/-- What READ PAGE returns of page 16 is its stored bytes without the check code (R198, R218). -/
theorem contentsBytes_limits (v : LimitValues) (c : CheckCode) :
    storedBytes (.limits v c) = some (contentsBytes (.limits v c) ++ be 2 c.toNat) := rfl

/-! ## Pages -/

/-- A page written holds its contents; the other pages stand (R193). -/
theorem page_setPage (s : State) (n m : Nat) (c : PageContents) (st : PageStatus) :
    (s.setPage n c st).page m = if m = n ∧ n < 17 then c else s.page m := by
  unfold State.setPage State.page
  simp only [Vector.getElem?_setIfInBounds]
  by_cases h : m = n
  · subst h; by_cases hm : m < 17 <;> simp [hm]
  · have : n ≠ m := fun e => h e.symm
    simp [h, this]

/-- A page written has its status; the other pages' statuses stand (R193). -/
theorem statusOf_setPage (s : State) (n m : Nat) (c : PageContents) (st : PageStatus) :
    (s.setPage n c st).statusOf m = if m = n ∧ n < 17 then st else s.statusOf m := by
  unfold State.setPage State.statusOf
  simp only [Vector.getElem?_setIfInBounds]
  by_cases h : m = n
  · subst h; by_cases hm : m < 17 <;> simp [hm]
  · have : n ≠ m := fun e => h e.symm
    simp [h, this]

/-! ## Tests of items -/

/-- No item fails exactly when every item passes (R191). -/
theorem firstFailing_none (items : List (Nat × Bool)) : firstFailing items = none ↔ ∀ x ∈ items, x.2 = true := by
  induction items with
  | nil => simp [firstFailing]
  | cons x rest ih =>
    obtain ⟨code, ok⟩ := x
    cases ok <;> simp [firstFailing, ih]

/-- The item named is one that fails, and every item before it passes (R191). -/
theorem firstFailing_some {items : List (Nat × Bool)} {code : Nat} (h : firstFailing items = some code) :
    ∃ front back, items = front ++ (code, false) :: back ∧ ∀ x ∈ front, x.2 = true := by
  induction items with
  | nil => cases h
  | cons x rest ih =>
    obtain ⟨c, ok⟩ := x
    cases ok
    · simp only [firstFailing, Bool.false_eq_true, if_false, Option.some.injEq] at h
      exact ⟨[], rest, by simp [h], by simp⟩
    · simp only [firstFailing, if_true] at h
      obtain ⟨front, back, rfl, hf⟩ := ih h
      exact ⟨(c, true) :: front, back, rfl, by simpa using hf⟩

end Sys2Proof.Machine
end

