-- ==== Sys2Proof/Tests/Slice0.lean ====
section
/-! SUPPORT. Tests: the well-formedness checks refuse ill-formed terms, commands do what the manual's worked examples say in one step, and
the hypotheses of each statement are met by a concrete state and operands. -/
namespace Sys2Proof.Tests
set_option Elab.async false
open Sys2Proof Sys2Proof.Machine Sys2Proof.Claims

/-! ## States to test on -/

/-- The state a command leaves. -/
def after (c : Instr) (s : State) : State :=
  match exec c s with
  | .next t => t
  | .fault _ => s
  | .refused _ => s

/-- The reason and body of the last answer of the depot port. -/
def port (c : Instr) (s : State) : Option (Reason × List Byte) := (after c s).lastAnswer.map (fun a => (a.reply.reason, a.reply.body))

/-- The payload of the newest frame in a link's outgoing list after a command: reason code, then the rest. -/
def cell (l : LinkId) (c : Instr) (s : State) : Option (List Byte) := (((after c s).link l).outgoing.getLast?).map (fun f => f.payload)

def starting : State := after (.resetEnd .tandem) State.reset
def running : State := after .startUpCheckEnd starting
def startingSingle : State := after (.resetEnd .single) State.reset
def runningSingle : State := after .startUpCheckEnd startingSingle

/-- Profile 3: TRAILER, 8 points (the values of section 2.9). -/
def header3 : ProfileHeader := ⟨3, 2, 3250, 3150, 2800, 3000, 650, 14, 8⟩
def points8 : List Point := (List.range 8).map (fun k => ⟨700 * k, 10 * k⟩)
def image3 : ProfileImage := { header := header3, slots := writeSlots (blankImage header3).slots 0 points8 }

/-- Page 3 VALID with profile 3. -/
def stored : State :=
  { running with pages := running.pages.set 3 (writtenProfile image3), pageStatus := running.pageStatus.set 3 .valid }

def code : List Byte := [84#8, 83#8, 48#8, 52#8, 49#8, 55#8, 65#8, 66#8]
def identity : VisitIdentity := { number := 412, trainCode := code }

/-- One TRAILER car on profile 3, just loaded. -/
def loaded : State := stored.load identity [{ class1 := .trailer, class2 := .trailer, profile := 3 }]

/-- A measurement block with both wheels alike but for the diameters. -/
def block (left right thickness height steepness defect : Nat) : Measurement :=
  { left := ⟨left, thickness, height, steepness, defect⟩, right := ⟨right, thickness, height, steepness, defect⟩ }

def good : Measurement := block 90400 90410 3200 2810 800 0
def worn : Measurement := block 90540 90560 2990 2860 800 0

/-- An ordinal gauged and planned with an own need and a target. -/
def planned (n need target : Nat) (m : Measurement) (s : State) : State :=
  (s.modRecord n (fun r =>
    { r with stage := .planned, measured := some { block := m, source := .gauge }, ownNeed := some need, target := some target })).refloor [n]

/-- The first three measurements of section 2.9 and the targets of section 3.7. -/
def gauged3 : State := planned 3 90520 90030 good (planned 2 90400 89780 good (planned 1 89630 89630 worn loaded))

/-- The fourth ordinal of section 2.9. -/
def fourth : Measurement := { left := ⟨89900, 2850, 2900, 800, 0⟩, right := ⟨89910, 2870, 2880, 800, 0⟩ }

/-- A link UP with one untaken frame. -/
def withFrame (l : LinkId) (k : RequestKind) (p : List Byte) (s : State) : State :=
  s.setLink l { s.link l with state := .up, inbox := [{ kind := k, tag := 5#4, payload := p, answered := false }] }

def frame (k : RequestKind) (p : List Byte) : InboxFrame := { kind := k, tag := 5#4, payload := p, answered := false }

/-- Ordinals 4, 2 and 3 aligned at gauge, A and B. -/
def aligned : State := { gauged3 with alignment := { gauge := some 4, stationA := some 2, stationB := some 3 } }

/-- Station A holds ordinal 2. -/
def held : State :=
  (aligned.modStation .a (fun c => { c with held := some 2 })).modRecord 2 (fun r => { r with hold := .clamped, holder := some .a })

def heldUp : State := held.setLink .stationA { held.linkA with state := .up }

/-- Station A has a grant of depth 50 for ordinal 2. -/
def grantedA : State := heldUp.modStation .a (fun c => { c with grant := some 50 })

/-- A pass is in flight at station A, its watch at 1. -/
def cutting : State :=
  (heldUp.modStation .a (fun c => { c with passInFlight := true, watch := 1 })).modRecord 2 (fun r => { r with hold := .cutting })

def wheelBytes' (w : Wheel) : List Byte := be 3 w.diameter ++ be 2 w.thickness ++ be 2 w.height ++ be 2 w.steepness ++ be 2 w.defect
def blockBytes (m : Measurement) : List Byte := wheelBytes' m.left ++ wheelBytes' m.right

/-! ## Well-formedness: an ill-formed term for each check -/

def okHeader : ProfileHeader := header3
def okPoint : Point := ⟨15000, 6000⟩

theorem test_wf_point : Point.wf okPoint = true ∧ Point.wf ⟨65536, 0⟩ = false ∧ Point.wf ⟨0, 65536⟩ = false := by decide

theorem test_wf_header : okHeader.wf = true ∧ ProfileHeader.wf { okHeader with number := 256 } = false
    ∧ ProfileHeader.wf { okHeader with applicability := 256 } = false ∧ ProfileHeader.wf { okHeader with nominalThickness := 65536 } = false
    ∧ ProfileHeader.wf { okHeader with acceptThickness := 65536 } = false ∧ ProfileHeader.wf { okHeader with nominalHeight := 65536 } = false
    ∧ ProfileHeader.wf { okHeader with maxHeight := 65536 } = false ∧ ProfileHeader.wf { okHeader with minSteepness := 65536 } = false
    ∧ ProfileHeader.wf { okHeader with restoreFactor := 256 } = false ∧ ProfileHeader.wf { okHeader with pointCount := 256 } = false := by
  decide

theorem test_wf_image : image3.wf = true ∧ ProfileImage.wf { image3 with header := { okHeader with number := 256 } } = false
    ∧ ProfileImage.wf { image3 with slots := Vector.replicate 48 ⟨65536, 0⟩ } = false := by decide +kernel

theorem test_wf_limits : shippedLimits.wf = true ∧ LimitValues.wf { shippedLimits with condemnMotor := 16777216 } = false
    ∧ LimitValues.wf { shippedLimits with condemnTrailer := 16777216 } = false
    ∧ LimitValues.wf { shippedLimits with bogieTolMotor := 65536 } = false
    ∧ LimitValues.wf { shippedLimits with bogieTolTrailer := 65536 } = false
    ∧ LimitValues.wf { shippedLimits with carTolMotor := 65536 } = false ∧ LimitValues.wf { shippedLimits with carTolTrailer := 65536 } = false
    ∧ LimitValues.wf { shippedLimits with axleTol := 65536 } = false ∧ LimitValues.wf { shippedLimits with finishTol := 65536 } = false
    ∧ LimitValues.wf { shippedLimits with undercutTol := 65536 } = false ∧ LimitValues.wf { shippedLimits with maxPassDepth := 65536 } = false
    ∧ LimitValues.wf { shippedLimits with maxPasses := 256 } = false ∧ LimitValues.wf { shippedLimits with reopenLimit := 256 } = false
    ∧ LimitValues.wf { shippedLimits with cleanUp := 65536 } = false ∧ LimitValues.wf { shippedLimits with watchReload := 65536 } = false
    ∧ LimitValues.wf { shippedLimits with watchMode := 256 } = false := by decide

theorem test_wf_contents : PageContents.wf (.profile { image3 with header := { okHeader with number := 256 } } 0) = false
    ∧ PageContents.wf (.limits { shippedLimits with watchMode := 256 } 0) = false ∧ PageContents.wf .erased = true := by decide +kernel

theorem test_wf_car : CarEntry.wf ⟨1, 2, 15⟩ = true ∧ CarEntry.wf ⟨256, 0, 0⟩ = false ∧ CarEntry.wf ⟨0, 256, 0⟩ = false
    ∧ CarEntry.wf ⟨0, 0, 256⟩ = false := by decide

theorem test_wf_cell_commands :
    Instr.wf (.storeCompletion (.limits { shippedLimits with watchMode := 256 } 0)) = false
    ∧ Instr.wf (.cellFrameArrival .gauge ⟨1, 0, List.replicate 201 0, 0⟩) = false
    ∧ Instr.wf (.malformedCommandWindow []) = false ∧ Instr.wf (.malformedCommandWindow [214#8]) = false := by decide +kernel

theorem test_wf_reads : Instr.wf (.lookupOrdinal 256) = false ∧ Instr.wf (.lookupSerial 4294967296) = false
    ∧ Instr.wf (.listStage 256) = false ∧ Instr.wf (.readGroup 256 1) = false ∧ Instr.wf (.readGroup 1 256) = false
    ∧ Instr.wf (.readStation 256) = false ∧ Instr.wf (.readPage 256) = false := by decide

theorem test_wf_rulings_and_visits : Instr.wf (.replan 256) = false ∧ Instr.wf (.ruleAcceptDeviation 256) = false
    ∧ Instr.wf (.ruleCondemn 256) = false ∧ Instr.wf (.openVisit 65536 code) = false ∧ Instr.wf (.openVisit 1 []) = false
    ∧ Instr.wf (.loadConsist (List.replicate 84 ⟨1, 1, 1⟩)) = false ∧ Instr.wf (.loadConsist [⟨256, 1, 1⟩]) = false
    ∧ Instr.wf (.setWindow 256 1 1) = false ∧ Instr.wf (.setWindow 1 256 1) = false ∧ Instr.wf (.setWindow 1 1 256) = false
    ∧ Instr.wf (.closeVisit 256) = false := by decide +kernel

theorem test_wf_stations_and_store : Instr.wf (.haltPass 256) = false ∧ Instr.wf (.resumePass 256) = false
    ∧ Instr.wf (.resetLink 256) = false ∧ Instr.wf (.writeProfileHead { okHeader with number := 256 }) = false
    ∧ Instr.wf (.writePoints 256 [okPoint]) = false ∧ Instr.wf (.writePoints 0 (List.replicate 63 okPoint)) = false
    ∧ Instr.wf (.writePoints 0 [⟨65536, 0⟩]) = false ∧ Instr.wf (.writeLimits { shippedLimits with watchMode := 256 }) = false
    ∧ Instr.wf (.eraseProfile 256) = false ∧ Instr.wf (.ackEvents 65536) = false ∧ Instr.wf (.setEvent 256 0 0) = false
    ∧ Instr.wf (.setEvent 0 256 0) = false ∧ Instr.wf (.setEvent 0 0 256) = false := by decide +kernel

/-! ## The wires -/

theorem test_check_code : crc [49#8, 50#8, 51#8, 52#8, 53#8, 54#8, 55#8, 56#8, 57#8] = 0x29B1#16 := by decide +kernel

theorem test_command_frame : parseWindow (commandFrame 3 [5#8]) = some (3#8, [5#8])
    ∧ parseWindow (commandFrame 3 [5#8] ++ [0#8]) = none ∧ decodeCommand 3 [5#8] = some (.lookupOrdinal 5)
    ∧ decodeCommand 3 [] = none ∧ decodeCommand 12 [] = none := by decide +kernel

/-- The HELLO of a mover, start marker to check code. -/
def helloFrame : List Byte := Config.cellStartMarker :: 1#8 :: 2#8 :: 1#8 :: 3#8 :: crcBytes [1#8, 2#8, 1#8, 3#8]

theorem test_receiver : Receiver.run .gauge .hunting
      ([.byte false 0#8, .byte false 195#8, .byte false 1#8, .byte true 195#8, .byte false 1#8, .byte false 0#8, .byte false 201#8])
    = [.malformedFrameDiscarded .gauge .byteLate, .malformedFrameDiscarded .gauge .lengthTooGreat] := by decide +kernel

theorem test_receiver_frame : Receiver.run .mover .hunting (inTime helloFrame) = [.cellFrameArrival .mover (cellFrame 1#8 2#8 [3#8])]
    ∧ ({ origin := .inboxAnswer, kind := 1#8, tag := 2#4, payload := [3#8] } : OutFrame).bytes = helloFrame := by decide +kernel

/-- A frame that RESET cuts is lost, and so is one sent while RESET is asserted (R166). -/
theorem test_receiver_reset : Receiver.run .mover .hunting (inTime (helloFrame.take 4) ++ [.reset, .resetEnd] ++ inTime (helloFrame.drop 4)) = []
    ∧ Receiver.run .mover .hunting ([.reset] ++ inTime helloFrame ++ [.resetEnd]) = []
    ∧ Receiver.run .mover .idle ([.resetEnd] ++ inTime helloFrame) = [.cellFrameArrival .mover (cellFrame 1#8 2#8 [3#8])] := by decide +kernel

/-- The limits page as shipped, 31 bytes: R184's values, the check code last (R218). -/
theorem test_stored_limits : (storedBytes (writtenLimits shippedLimits)).map (fun b => (b.length, b.take 8, (b.drop 28).take 1))
    = some (31, [1#8, 77#8, 252#8, 1#8, 76#8, 8#8, 0#8, 100#8], [1#8]) := by decide +kernel

/-- A profile page, 208 bytes: header, slots, the check code at offset 206 (R218). -/
theorem test_stored_profile : (storedBytes (.profile image3 0x1234#16)).map (fun b => (b.length, b.take 4, (b.drop 18).take 4, b.drop 206))
    = some (208, [3#8, 2#8, 12#8, 178#8], [2#8, 188#8, 0#8, 10#8], [18#8, 52#8]) := by decide +kernel

/-! ## One step of each command -/

theorem test_reset : (after .reset held).phase = .resetAsserted ∧ ((after .reset held).record 2).stage = .vacant
    ∧ (after .reset held).page 3 = held.page 3 := by decide +kernel

theorem test_reset_end : starting.phase = .starting ∧ startingSingle.linkB.state = .disabled ∧ startingSingle.stationB.enabled = false := by
  decide +kernel

theorem test_start_up_check_end : running.phase = .running ∧ running.statusOf 16 = .valid ∧ running.statusOf 0 = .empty
    ∧ running.moveState = .still := by decide +kernel

theorem test_move_request_rise : (after .moveRequestRise aligned).moveState = .granted ∧ (after .moveRequestRise aligned).alignment = .empty
    ∧ (after .moveRequestRise held).moveState = .pending := by decide +kernel

theorem test_move_request_fall : (after .moveRequestFall (after .moveRequestRise held)).moveState = .still := by decide +kernel

theorem test_rev_pulse : (after (.revPulse .a) (cutting.modStation .a (fun c => { c with watch := 250 }))).stationA.watch = 249
    ∧ (after (.revPulse .b) cutting).stationA.watch = 1 := by decide +kernel

theorem test_timebase_tick : (after .timebaseTick cutting) = cutting
    ∧ (after .timebaseTick { cutting with limits := { shippedLimits with watchMode := 2 } }).stationA.passInFlight = false := by
  decide +kernel

theorem test_pass_watch_expiry : ((after (.passWatchExpiry .a) cutting).record 2).doubtful = true
    ∧ ((after (.passWatchExpiry .a) cutting).record 2).hold = .clamped ∧ ((after (.passWatchExpiry .a) cutting).source .passOverrun).flag = true
    ∧ cell .stationA (.passWatchExpiry .a) cutting = some [2#8] := by decide +kernel

/-- A profile 3 being written. -/
def committing : State := { running with catalogue := .committing, staging := .profile 3 image3 }

theorem test_store_completion : (after (.storeCompletion (writtenProfile image3)) committing).statusOf 3 = .valid
    ∧ (after (.storeCompletion (writtenProfile image3)) committing).validProfile 3 = some image3
    ∧ (after (.storeCompletion .corrupt) committing).statusOf 3 = .unusable
    ∧ (after (.storeCompletion (.profile image3 0#16)) committing).statusOf 3 = .unusable := by decide +kernel

theorem test_cell_frame_arrival : ((after (.cellFrameArrival .gauge (cellFrame 1#8 7#8 [0#8])) running).linkGauge).state = .up
    ∧ cell .gauge (.cellFrameArrival .gauge (cellFrame 1#8 7#8 [1#8])) running = some [37#8]
    ∧ cell .gauge (.cellFrameArrival .gauge (cellFrame 16#8 7#8 [1#8])) running = some [39#8] := by decide +kernel

theorem test_malformed_frame_discarded : (after (.malformedFrameDiscarded .mover .byteLate) running).linkMover.fault = .malformed
    ∧ (after (.malformedFrameDiscarded .stationB .byteLate) runningSingle).linkB.fault = .none := by decide +kernel

/-- Link 0 with a HELLO answered and its answer in transmission. -/
def sending : State := after (.transmissionStart .gauge) (after (.hello .gauge) (withFrame .gauge .hello [0#8] running))

theorem test_hello : cell .gauge (.hello .gauge) (withFrame .gauge .hello [0#8] running) = some [1#8, 0#8, 0#8]
    ∧ cell .gauge (.hello .gauge) (withFrame .gauge .hello [2#8] running) = some [37#8] := by decide +kernel

theorem test_transmission : sending.linkGauge.transmitting = true ∧ (after (.transmissionEnd .gauge) sending).linkGauge.inbox = []
    ∧ (after (.transmissionEnd .gauge) sending).linkGauge.outgoing = [] := by decide +kernel

/-- The fourth report of section 3.7 waits at link 0. -/
def report4 : State := withFrame .gauge .gaugeReport (be 1 4 ++ blockBytes fourth) aligned

theorem test_gauge_report_cascades : [1, 2, 3, 4].map (fun n => ((after .gaugeReport report4).record n).target)
      = [some 88900, some 88900, some 88650, some 88500]
    ∧ ((after .gaugeReport report4).record 4).ownNeed = some 88500
    ∧ (after .gaugeReport report4).bogieGroups.map (fun g => g.floor) = [some 88900, some 88500] := by decide +kernel

/-- A report is refused NOT LOADED before the load and NOT ALIGNED in a visit, each counted (R100, R101); an accepted ALIGNED zeroes the count. -/
theorem test_gauge_report_refused :
    cell .gauge .gaugeReport (withFrame .gauge .gaugeReport (be 1 4 ++ blockBytes fourth) running) = some [5#8]
    ∧ (after .gaugeReport (withFrame .gauge .gaugeReport (be 1 4 ++ blockBytes fourth) running)).gaugeCounts = { accepted := 0, refused := 1 }
    ∧ (after .gaugeReport (withFrame .gauge .gaugeReport (be 1 3 ++ blockBytes fourth) aligned)).gaugeCounts = { accepted := 0, refused := 1 }
    ∧ (after .aligned (withFrame .mover .aligned [2#8, 1#8, 0#8] { loaded with gaugeCounts := { accepted := 0, refused := 1 } })).gaugeCounts
      = { accepted := 0, refused := 0 } := by
  decide +kernel

theorem test_aligned : (after .aligned (withFrame .mover .aligned [2#8, 1#8, 0#8] loaded)).alignment
      = { gauge := some 2, stationA := some 1, stationB := none }
    ∧ cell .mover .aligned (withFrame .mover .aligned [2#8, 2#8, 0#8] loaded) = some [41#8] := by decide +kernel

theorem test_claim : ((after (.claim .a) (withFrame .stationA .claim [2#8] aligned)).record 2).holder = some .a
    ∧ cell .stationA (.claim .a) (withFrame .stationA .claim [1#8] aligned) = some [21#8, 2#8] := by decide +kernel

theorem test_grant_pass : (after (.grantPass .a) (withFrame .stationA .grantPass (be 2 300) heldUp)).stationA.grant = some 300
    ∧ cell .stationA (.grantPass .a) (withFrame .stationA .grantPass (be 2 301) heldUp) = some [15#8]
    ∧ cell .stationA (.grantPass .a) (withFrame .stationA .grantPass (be 2 0) heldUp) = some [15#8] := by decide +kernel

theorem test_start_pass : (after (.startPass .a) (withFrame .stationA .startPass [] grantedA)).stationA.passInFlight = true
    ∧ (after (.startPass .a) (withFrame .stationA .startPass [] grantedA)).stationA.watch = 250
    ∧ cell .stationA (.startPass .a) (withFrame .stationA .startPass [] heldUp) = some [14#8] := by decide +kernel

theorem test_pass_done : ((after (.passDone .a) (withFrame .stationA .passDone (be 3 89785 ++ be 3 89790) cutting)).record 2).current = some 89785
    ∧ ((after (.passDone .a) (withFrame .stationA .passDone (be 3 89785 ++ be 3 89790) cutting)).record 2).passesDone = 1
    ∧ ((after (.passDone .a) (withFrame .stationA .passDone (be 3 84999 ++ be 3 89790) cutting)).record 2).condemnCause = some .overcut := by
  decide +kernel

theorem test_verify : ((after (.verify .a) (withFrame .stationA .verify (blockBytes (block 89790 89795 3250 2800 800 0)) heldUp)).record 2).verified
      = true
    ∧ ((after (.verify .a) (withFrame .stationA .verify (blockBytes (block 89801 89801 3250 2800 800 0)) heldUp)).record 2).verified
      = false := by decide +kernel

theorem test_release : ((after (.release .a) (withFrame .stationA .release [] heldUp)).record 2).hold = .free
    ∧ ((after (.release .a) (withFrame .stationA .release []
        (heldUp.modRecord 2 (fun r => { r with verified := true })))).record 2).stage = .finished := by decide +kernel

/-- A contour cursor at the last point. -/
def cursorA : State := heldUp.modStation .a (fun c => { c with cursor := some { profile := 3, next := 7 } })

theorem test_contour : cell .stationA (.readContour .a) (withFrame .stationA .readContour [7#8] heldUp)
      = some ([1#8, 3#8, 8#8, 7#8, 1#8] ++ be 2 4900 ++ be 2 70)
    ∧ cell .stationA (.readContour .a) (withFrame .stationA .readContour [8#8] heldUp) = some [41#8]
    ∧ cell .stationA (.contourNext .a) (withFrame .stationA .contourNext [] cursorA) = some ([1#8, 3#8, 8#8, 7#8, 1#8] ++ be 2 4900 ++ be 2 70)
    ∧ cell .stationA (.contourNext .a) (withFrame .stationA .contourNext [] heldUp) = some [26#8]
    ∧ cell .stationA (.contourNext .a) (withFrame .stationA .contourNext [] running) = some [26#8] := by decide +kernel

theorem test_windows : after .emptyWindow running = running
    ∧ (after (.readWindow 6) running).dataOut = [213#8, 0#8, 0#8, 0#8, 204#8, 156#8]
    ∧ (after (.malformedCommandWindow [213#8, 3#8]) running).lastAnswer = some { code := 0#8, reply := { reason := .malformed, body := [] } }
    ∧ after (.malformedCommandWindow (commandFrame 1 [])) running = after .status running := by decide +kernel

theorem test_status : port .status starting = some (.done, [1#8, 0#8, 0#8, 0#8, 0#8, 0#8, 0#8, 0#8, 0#8, 0#8, 0#8, 0#8, 0#8])
    ∧ port .status runningSingle = some (.done, [0#8, 0#8, 0#8, 0#8, 0#8, 0#8, 0#8, 3#8, 0#8, 0#8, 0#8, 0#8, 0#8]) := by decide +kernel

theorem test_lookups : port (.lookupOrdinal 65) loaded = some (.badOrdinal, []) ∧ port (.lookupSerial 9) loaded = some (.notFound, [])
    ∧ port (.listStage 1) loaded = some (.done, [4#8, 1#8, 2#8, 3#8, 4#8]) ∧ port (.listStage 6) loaded = some (.outOfRange, []) := by
  decide +kernel

theorem test_lookup_ordinal_snapshot : (port (.lookupOrdinal 3) held).map (fun a => a.2.take 10)
    = some [3#8, 57#8, 1#8, 2#8, 1#8, 2#8, 3#8, 2#8, 0#8, 0#8] := by decide +kernel

theorem test_read_group : port (.readGroup 1 2) gauged3 = some (.done,
      [1#8, 2#8, 2#8] ++ be 2 150 ++ [1#8] ++ be 3 90030 ++ [2#8, 3#8, 1#8, 1#8] ++ be 3 90030 ++ [4#8, 0#8, 0#8, 0#8, 0#8, 0#8])
    ∧ port (.readGroup 1 3) gauged3 = some (.notFound, []) ∧ port (.readGroup 2 17) gauged3 = some (.outOfRange, []) := by decide +kernel

theorem test_reads : port .readReopenList { gauged3 with reopenList := [3, 1] } = some (.done, [2#8, 3#8, 1#8])
    ∧ (port .readVisit loaded).map (fun a => a.2.take 4) = some [2#8, 1#8, 1#8, 156#8]
    ∧ (port (.readStation 1) cutting).map (fun a => a.2.take 3) = some [1#8, 2#8, 2#8]
    ∧ port .readAlignment held = some (.done, [0#8, 0#8, 0#8, 4#8, 2#8, 3#8, 2#8, 0#8, 0#8, 0#8])
    ∧ (port (.readPage 3) stored).map (fun a => a.2.take 2) = some [3#8, 1#8]
    ∧ (port .readAttention running).map (fun a => a.2.length) = some 38 := by decide +kernel

theorem test_replan : ((after (.replan 1) gauged3).record 1).target = some 89630 ∧ port (.replan 4) gauged3 = some (.wrongStage, [])
    ∧ port (.replan 2) held = some (.heldElsewhere, []) := by decide +kernel

/-- Ordinal 1 blocked with a held-back target of 89500. -/
def blocked1 : State :=
  gauged3.modRecord 1 (fun r => { r with stage := .blocked, blocked := some { heldBack := 89500, reason := .exemptMember, blocker := 2 } })

theorem test_rulings : ((after (.ruleAcceptDeviation 1) blocked1).record 1).target = some 89500
    ∧ ((after (.ruleAcceptDeviation 1) blocked1).record 1).waived = true
    ∧ ((after (.ruleCondemn 1) gauged3).record 1).stage = .condemned
    ∧ (after (.ruleCondemn 1) gauged3).carGroups.map (fun g => g.floor) = [some 89780] := by decide +kernel

/-- On a held PLANNED record RULE ACCEPT DEVIATION answers WRONG STAGE and RULE CONDEMN HELD ELSEWHERE. -/
theorem test_rulings_held : port (.ruleAcceptDeviation 2) held = some (.wrongStage, [])
    ∧ port (.ruleCondemn 2) held = some (.heldElsewhere, []) := by decide +kernel

theorem test_visit : (after (.openVisit 412 code) stored).visit = .opened identity ∧ port (.openVisit 0 code) stored = some (.outOfRange, [])
    ∧ after (.loadConsist [⟨2, 2, 3⟩]) (after (.openVisit 412 code) stored)
      = after (.loadConsist [⟨2, 2, 3⟩]) { stored with visit := .opened identity }
    ∧ port (.loadConsist [⟨2, 2, 3⟩, ⟨1, 2, 3⟩]) { stored with visit := .opened identity } = some (.classMismatch, [2#8])
    ∧ port (.loadConsist [⟨2, 2, 3⟩, ⟨1, 2, 4⟩]) { stored with visit := .opened identity } = some (.profileUnusable, [2#8]) := by
  decide +kernel

theorem test_set_window_and_close : (after (.setWindow 2 3 4) gauged3).exempt 3 = true ∧ (after (.setWindow 2 3 4) gauged3).exempt 5 = false
    ∧ port (.closeVisit 1) gauged3 = some (.unsettled, []) ∧ (after (.closeVisit 2) gauged3).visit = .noVisit
    ∧ port (.closeVisit 2) held = some (.holdsPresent, []) := by decide +kernel

theorem test_halt_and_resume : ((after (.haltPass 1) cutting).record 2).hold = .suspended
    ∧ cell .stationA (.haltPass 1) cutting = some [2#8] ∧ port (.resumePass 1) cutting = some (.noPass, [])
    ∧ ((after (.resumePass 1) (after (.haltPass 1) cutting)).record 2).hold = .cutting := by decide +kernel

theorem test_reset_link : ((after (.resetLink 1) cutting).record 2).doubtful = true ∧ ((after (.resetLink 1) cutting).record 2).hold = .free
    ∧ (after (.resetLink 1) cutting).linkA.state = .resetting ∧ port (.resetLink 2) runningSingle = some (.disabled, []) := by decide +kernel

/-- The catalogue open with a blank image of profile 3 staged. -/
def staged : State := after (.writeProfileHead header3) (after .openCatalogue running)

theorem test_catalogue : staged.staging = .profile 3 (blankImage header3) ∧ (after (.eraseProfile 3) staged).staging = .erase 3
    ∧ (after (.writeLimits shippedLimits) staged).staging = .limits shippedLimits ∧ (after .closeCatalogue staged).staging = .empty
    ∧ port .openCatalogue loaded = some (.visitOpen, []) := by decide +kernel

theorem test_write_points : port (.writePoints 40 (List.replicate 12 ⟨1, 2⟩)) staged = some (.done, [4#8])
    ∧ port .commit staged = some (.outOfRange, [17#8]) ∧ port .commit (after (.writePoints 0 points8) staged) = some (.done, [3#8])
    ∧ port .storeReset committing = some (.done, [1#8, 3#8]) ∧ (after .storeReset committing).statusOf 3 = .unusable := by decide +kernel

theorem test_attention : (after (.setEvent 4 1 3) { running with reopenList := [1] }).attentionLine = false
    ∧ ((after (.ackEvents 16) { running with reopenList := [1] }).source .reopened).flag = true
    ∧ (after (.setEvent 4 1 3) (after (.ackEvents 16) { running with reopenList := [1] })).attentionLine = true
    ∧ port (.ackEvents 4096) running = some (.outOfRange, []) := by decide +kernel

/-! ## The hypotheses of the statements are met

One theorem for each statement that has hypotheses, a conjunct for each of its clauses. -/

theorem test_safe_state_holds : heldUp.StationSafe .a ∧ heldUp.StationSafe .b ∧ (∀ n ∈ ordinals, heldUp.HoldSafe n)
    ∧ (heldUp.phase = .running → heldUp.stationA.enabled = true ∧ heldUp.stationB.enabled = stationBEnabled heldUp.stationMode) :=
  ⟨by decide +kernel, by decide +kernel, by decide +kernel, by decide +kernel⟩

/-- A state in the middle of a visit, station A holding a record, is safe. -/
theorem test_safe_state : heldUp.Safe :=
  ⟨by decide +kernel, by decide +kernel, test_safe_state_holds, by decide +kernel, by decide +kernel, by decide +kernel, by decide +kernel,
    by decide +kernel, by decide +kernel, by decide +kernel⟩

/-- The laws past the first do not read the queue, and a window with no byte leaves the state. -/
theorem test_queue_is_outside_the_laws (s : State) (q : List Instr) (h : s.Safe) (quiet : State.QuietSafe { s with pending := q }) :
    State.Safe { s with pending := q } := ⟨quiet, h.2⟩

theorem test_empty_window_steps (s : State) (h : s.pending = []) : step { s with pending := [.emptyWindow] } = .next s := by
  calc step { s with pending := [.emptyWindow] } = .next { s with pending := [] } := rfl
    _ = .next s := by rw [← h]

/-- The nine laws and the rule on targets are about a step that runs: the same state with a command in front is safe, and its step answers. -/
theorem test_witness_step_keeps : ∃ s t : State, s.Safe ∧ step s = .next t ∧ t.visit ≠ .noVisit ∧ (s.record 2).target = some 89780 :=
  ⟨{ heldUp with pending := [.emptyWindow] }, heldUp, test_queue_is_outside_the_laws heldUp _ test_safe_state (by decide +kernel),
    test_empty_window_steps heldUp (by decide +kernel), by decide +kernel, by decide +kernel⟩

theorem test_witness_StepTakesTheFrontCommand : State.reset.pending = [] := by decide

theorem test_witness_phases : State.reset.phase = .resetAsserted ∧ starting.phase = .starting ∧ running.phase = .running := by decide +kernel

/-- Of the start-up check: page 16 VALID, page 16 not VALID, a safe state that is starting. -/
theorem test_witness_StartUpCheckEnd : starting.page 16 = writtenLimits shippedLimits ∧ judge 16 (starting.page 16) = .valid
    ∧ judge 16 (State.page { starting with pages := starting.pages.set 16 .corrupt } 16) ≠ .valid := by decide +kernel

theorem test_starting_is_safe : starting.Safe :=
  ⟨by decide +kernel, by decide +kernel, ⟨by decide +kernel, by decide +kernel, by decide +kernel, by decide +kernel⟩, by decide +kernel,
    by decide +kernel, by decide +kernel, by decide +kernel, by decide +kernel, by decide +kernel, by decide +kernel⟩

/-- Of the judgements: VALID; wrong page, wrong check code, values out of range. -/
theorem test_witness_PageTests : profileFault 3 image3 = none ∧ limitsFault shippedLimits = none
    ∧ judge 3 (writtenProfile image3) = .valid ∧ judge 16 (writtenLimits shippedLimits) = .valid
    ∧ judge 4 (writtenProfile image3) = .unusable ∧ judge 3 (.profile image3 0#16) = .unusable
    ∧ judge 15 (writtenLimits shippedLimits) = .unusable ∧ judge 16 (.limits shippedLimits 0#16) = .unusable
    ∧ judge 16 (writtenLimits { shippedLimits with watchMode := 3 }) = .unusable := by decide +kernel

theorem test_witness_PortAnswersCommands : encodeCommand (.setEvent 11 1 7) = some (49, [11#8, 1#8, 7#8])
    ∧ encodeCommand .status = some (1, []) ∧ Instr.setEvent 11 1 7 ≠ .status := by decide

theorem test_witness_EmptyAndReadWindows : running.phase ≠ .resetAsserted ∧ (running.lastAnswer = none)
    ∧ (after .status running).lastAnswer ≠ none
    ∧ ({ code := 46#8, reply := { reason := .done, body := [0#8, 0#8] } } : DepotAnswer).bytes.take 6 = [213#8, 46#8, 1#8, 2#8, 0#8, 0#8] := by
  decide +kernel

theorem test_witness_CommandWindowRows : running.phase ≠ .resetAsserted ∧ (213#8 : Byte) ≠ 214#8
    ∧ parseWindow [213#8] = none ∧ parseWindow (commandFrame 12 []) = some (12#8, []) ∧ 12 ∉ commandCodes
    ∧ (List.replicate 250 0#8).length ≤ 250
    ∧ parseWindow (commandFrame 50 (List.replicate 250 0#8)) = some (50#8, List.replicate 250 0#8)
    ∧ decodeCommand 3 [1#8, 2#8] = none ∧ decodeCommand 49 [255#8, 255#8, 255#8] = some (.setEvent 255 255 255) := by decide +kernel

theorem test_witness_CommandFrames : Instr.wf (.loadConsist (List.replicate 83 ⟨255, 255, 255⟩)) = true
    ∧ (encodeCommand (.loadConsist (List.replicate 83 ⟨255, 255, 255⟩))).isSome = true
    ∧ Instr.wf (.writePoints 255 (List.replicate 62 ⟨65535, 65535⟩)) = true
    ∧ (encodeCommand (.writePoints 255 (List.replicate 62 ⟨65535, 65535⟩))).isSome = true
    ∧ Instr.wf (.openVisit 65535 code) = true ∧ (encodeCommand (.openVisit 65535 code)).isSome = true
    ∧ Instr.wf (.lookupSerial 4294967295) = true ∧ (encodeCommand (.lookupSerial 4294967295)).isSome = true := by decide +kernel

theorem test_witness_OrdinalFormula : 4 * (16 - 1) + 2 * (2 - 1) + 2 = 64 ∧ 4 * (1 - 1) + 2 * (1 - 1) + 1 = 1 ∧ carOf 64 = 16 ∧ carOf 1 = 1
    ∧ bogieIndexOf 64 = 32 := by decide

theorem test_witness_LossesOfAMeasurement : verdictOf header3 worn = .rejected ∧ realOwnLossOf header3 50 worn = 910
    ∧ verdictOf header3 good = .accepted ∧ verdictOf header3 fourth = .rejected ∧ realOwnLossOf header3 50 fourth = 1400 := by decide

/-- Of an assessment, exempt and not. -/
theorem test_witness_Assessment : (gauged3.record 1).measured = some { block := worn, source := .gauge }
    ∧ gauged3.validProfile (gauged3.record 1).profile = some image3 ∧ gauged3.exempt 1 = false
    ∧ State.exempt { gauged3 with window1 := some ⟨1, 1⟩ } 1 = true := by decide +kernel

theorem test_witness_CandidateTarget : (gauged3.record 2).waived = false ∧ (gauged3.record 2).target = some 89780
    ∧ ((gauged3.modRecord 2 (fun r => { r with waived := true })).record 2).waived = true
    ∧ State.chosenObstacle { gauged3 with window1 := some ⟨2, 2⟩ } 2 ⟨89000, true, 0⟩ 89000 [] = some (2, .exemptMember) := by decide +kernel

theorem test_witness_Cascade : heldUp.GroupsSafe ∧ (heldUp.record 4).waived = false ∧ (heldUp.bogieGroup 4).isSome = true ∧ (heldUp.carGroup 4).isSome = true
    ∧ heldUp.lowerings 4 (heldUp.candidate 4 88500)
      = [{ ordinal := 1, target := 88900 }, { ordinal := 2, target := 88900 }, { ordinal := 3, target := 88650 }] :=
  ⟨by decide +kernel, by decide +kernel, by decide +kernel, by decide +kernel, by decide +kernel⟩

/-- The state in which the first GAUGE REPORT of ordinal 4 is evaluated: the record still ANNOUNCED, its measurement and own need written. -/
def firstReport4 : State := (gauged3.storeReport 4 fourth none).modRecord 4 (fun r => { r with ownNeed := some 88500, unfit := true })

/-- That state meets the hypotheses of the cascade and of the evaluation's clause on the neighbours, and its cascade lowers all three. -/
theorem test_witness_first_report : firstReport4.GroupsSafe ∧ (firstReport4.record 4).stage = .announced
    ∧ (firstReport4.bogieGroup 4).isSome = true ∧ (firstReport4.carGroup 4).isSome = true ∧ (firstReport4.record 4).waived = false
    ∧ firstReport4.chosenObstacle 4 ⟨88500, false, 1400⟩ 88500 (firstReport4.lowerings 4 88500) = none
    ∧ [1, 2, 3, 4].map (fun n => ((firstReport4.evaluate 4 ⟨88500, false, 1400⟩).record n).target)
      = [some 88900, some 88900, some 88650, some 88500] :=
  ⟨by decide +kernel, by decide +kernel, by decide +kernel, by decide +kernel, by decide +kernel, by decide +kernel, by decide +kernel⟩

/-- Ordinal 1 FINISHED at the reopen limit. -/
def finished1 : State := gauged3.modRecord 1 (fun r => { r with stage := .finished, reopenCount := 2 })

theorem test_witness_Obstacle : finished1.ownReopenLimit 1 ⟨89630, false, 910⟩ 89630 = true
    ∧ gauged3.ownReopenLimit 1 ⟨89630, false, 910⟩ 89630 = false
    ∧ finished1.chosenObstacle 4 ⟨88500, false, 1400⟩ 88500 (finished1.lowerings 4 88500) = some (1, .reopenLimit)
    ∧ gauged3.chosenObstacle 4 ⟨88500, false, 1400⟩ 88500 (gauged3.lowerings 4 88500) = none := by decide +kernel

theorem test_witness_Evaluation : ((after (.ruleCondemn 1) gauged3).record 1).stage = .condemned
    ∧ ((gauged3.record 4).stage ≠ .condemned ∧ 84999 < condemnDiameter gauged3.limits (gauged3.record 4).cls)
    ∧ (condemnDiameter gauged3.limits (gauged3.record 4).cls ≤ 85000)
    ∧ gauged3.chosenObstacle 4 ⟨85000, false, 0⟩ 85000 (gauged3.lowerings 4 85000) = none
    ∧ (finished1.chosenObstacle 4 ⟨88500, false, 0⟩ 88500 (finished1.lowerings 4 88500)).isSome = true := by decide +kernel

/-- Of a lowering: a FINISHED member beyond its new target, and one within it. -/
theorem test_witness_lowering : (finished1.record 1).stage = .finished ∧ (finished1.record 1).current = some 90540
    ∧ ((finished1.record 1).lowered shippedLimits 90519).stage = .planned
    ∧ ((finished1.record 1).lowered shippedLimits 90520).stage = .finished := by decide +kernel

theorem test_witness_LoadConsist : loaded.visit = .loaded identity [{ class1 := .trailer, class2 := .trailer, profile := 3 }]
    ∧ State.visit { stored with visit := .opened identity } = .opened identity ∧ running.visit = .noVisit
    ∧ carsOfEntries [⟨3, 1, 1⟩] = none ∧ carsOfEntries [⟨1, 1, 16⟩] = none
    ∧ carsOfEntries [⟨2, 2, 3⟩] = some [{ class1 := .trailer, class2 := .trailer, profile := 3 }]
    ∧ stored.statusOf 3 = .valid ∧ stored.statusOf 4 ≠ .valid
    ∧ stored.classesAdmitted { class1 := .trailer, class2 := .trailer, profile := 3 } = true
    ∧ stored.classesAdmitted { class1 := .trailer, class2 := .motor, profile := 3 } = false := by decide +kernel

theorem test_witness_CloseVisit : loaded.visit.identity = some identity ∧ running.visit.identity = none := by decide +kernel

/-- Each request's frame is the one to take. -/
theorem test_witness_requests :
    report4.nextRequest .gauge .gaugeReport = some (frame .gaugeReport (be 1 4 ++ blockBytes fourth))
    ∧ (report4.gaugeCounts.accepted ≤ 255 ∧ report4.gaugeCounts.refused ≤ 255)
    ∧ (withFrame .stationA .claim [2#8] aligned).nextRequest (stationLink .a) .claim = some (frame .claim [2#8])
    ∧ (withFrame .stationA .grantPass [0#8, 50#8] heldUp).nextRequest (stationLink .a) .grantPass = some (frame .grantPass [0#8, 50#8])
    ∧ (withFrame .stationA .startPass [] grantedA).nextRequest (stationLink .a) .startPass = some (frame .startPass [])
    ∧ (withFrame .stationA .passDone (be 6 0) cutting).nextRequest (stationLink .a) .passDone = some (frame .passDone (be 6 0))
    ∧ (withFrame .stationA .verify (blockBytes good) heldUp).nextRequest (stationLink .a) .verify = some (frame .verify (blockBytes good))
    ∧ (withFrame .stationA .release [] heldUp).nextRequest (stationLink .a) .release = some (frame .release [])
    ∧ (withFrame .stationA .readContour [7#8] heldUp).nextRequest (stationLink .a) .readContour = some (frame .readContour [7#8])
    ∧ (withFrame .stationA .contourNext [] cursorA).nextRequest (stationLink .a) .contourNext = some (frame .contourNext [])
    ∧ (withFrame .mover .aligned [1#8, 2#8, 0#8] loaded).nextRequest .mover .aligned = some (frame .aligned [1#8, 2#8, 0#8])
    ∧ (withFrame .gauge .hello [0#8] running).nextRequest .gauge .hello = some (frame .hello [0#8]) ∧ running.nextRequest .gauge .hello = none := by
  decide +kernel

/-- Each clause on what a station holds: nothing, an ordinal of the table with a VALID profile, a grant, none, a cursor. -/
theorem test_witness_station_clauses : aligned.stationA.held = none ∧ heldUp.stationA.held = some 2 ∧ heldUp.stationA.grant = none
    ∧ grantedA.stationA.grant = some 50 ∧ heldUp.validProfile (heldUp.record 2).profile = some image3 ∧ heldUp.stationA.cursor = none
    ∧ running.isLoaded = false ∧ running.stationA.cursor = none
    ∧ (withFrame .stationA .contourNext [] running).nextRequest (stationLink .a) .contourNext = some (frame .contourNext [])
    ∧ (withFrame .gauge .gaugeReport [] running).nextRequest .gauge .gaugeReport = some (frame .gaugeReport [])
    ∧ cursorA.stationA.cursor = some { profile := 3, next := 7 } ∧ cursorA.validProfile 3 = some image3 := by decide +kernel

/-- A pass in flight, suspended and not; a station disabled; a station that no code names. -/
theorem test_witness_HaltAndResume : cutting.stationA.passInFlight = true ∧ cutting.stationA.suspended = false ∧ cutting.stationA.enabled = true
    ∧ (after (.haltPass 1) cutting).stationA.suspended = true ∧ heldUp.stationA.passInFlight = false
    ∧ runningSingle.stationB.enabled = false ∧ stationOf 0 = none ∧ stationOf 3 = none ∧ stationOf 1 = some .a ∧ stationOf 2 = some .b := by
  decide +kernel

theorem test_witness_WatchExpiry : cutting.stationA.held = some 2 ∧ cutting.stationA.passInFlight = true ∧ cutting.stationA.suspended = false
    ∧ cutting.stationA.watch = 1 ∧ heldUp.stationA.watch ≠ 1 := by decide +kernel

theorem test_witness_MoveRequestEdges : aligned.phase = .running ∧ aligned.moveState = .still ∧ aligned.moveRequest = false
    ∧ (after .moveRequestRise aligned).moveRequest = true ∧ starting.phase ≠ .running := by decide +kernel

/-- An outgoing list with four orders, the oldest in transmission. -/
def orders4 : LinkContext :=
  { (([1, 2, 3, 4].foldl (fun c n => c.order .halt n) LinkContext.afterReset)) with transmitting := true }

/-- Of the receiver: a byte that is no marker, lengths about 200, the longest payload, every place in a frame to cut. -/
theorem test_witness_Receiver : (194#8 : Byte) ≠ 195#8 ∧ 200 < (201#8 : Byte).toNat ∧ (List.replicate 200 7#8).length ≤ 200 ∧ 0 < helloFrame.length
    ∧ Receiver.run .mover .hunting (inTime (195#8 :: [9#8, 0#8, 200#8] ++ List.replicate 200 7#8 ++ [1#8, 2#8]))
      = [.cellFrameArrival .mover { kind := 9#8, tag := 0#8, payload := List.replicate 200 7#8, check := 0x0102#16 }] := by decide +kernel

/-- Of a snapshot: optional fields absent, and present. -/
theorem test_witness_TableLookups : (running.record 1).position = none ∧ (running.record 1).measured = none ∧ (running.record 1).blocked = none
    ∧ (blocked1.record 1).position.isSome = true ∧ (blocked1.record 1).measured.isSome = true ∧ (blocked1.record 1).blocked.isSome = true
    ∧ (blocked1.snapshot 1).drop 44 = [1#8, 93#8, 156#8, 1#8, 2#8, 0#8, 0#8, 0#8, 0#8, 0#8, 0#8] := by decide +kernel

theorem test_witness_Outgoing : sending.linkGauge.transmitting = true
    ∧ sending.linkGauge.outgoing = [{ origin := .inboxAnswer, kind := 1#8, tag := 5#4, payload := [1#8, 0#8, 0#8] }]
    ∧ running.linkGauge.transmitting = false ∧ LinkContext.afterReset.waiting .order < 4 ∧ 4 ≤ orders4.waiting .order
    ∧ (orders4.order .abandon 9).outgoing.map (fun f => f.payload) = [[1#8], [3#8], [4#8], [9#8]] := by decide +kernel

theorem test_witness_ResetLink : linkOf 4 = none ∧ linkOf 3 = some .mover ∧ linkOf 2 = some .stationB ∧ runningSingle.linkB.state = .disabled
    ∧ running.linkB.state ≠ .disabled := by decide +kernel

theorem test_witness_Store : running.catalogue = .closed ∧ committing.catalogue = .committing ∧ staged.catalogue = .opened
    ∧ committing.staging.page = some 3 ∧ committing.staging.committed = writtenProfile image3 ∧ (PageContents.corrupt ≠ committing.staging.committed)
    ∧ staged.staging = .profile 3 (blankImage header3) ∧ staged.staging.page = some 3 ∧ staged.staging.fault = some 17
    ∧ (after (.writePoints 0 points8) staged).staging.fault = none ∧ (after .openCatalogue running).staging = .empty := by decide +kernel

theorem test_witness_WritePoints : 47 < 48 ∧ (List.replicate 17 okPoint).length = 17 ∧ (List.replicate 16 okPoint).length = 16
    ∧ (after (.writePoints 47 (List.replicate 16 okPoint)) staged).staging
      = .profile 3 { header := header3, slots := writeSlots (blankImage header3).slots 47 (List.replicate 16 okPoint) } := by decide +kernel

theorem test_witness_AckAndSet : 4096 ≤ 4096 ∧ 4095 < 4096 ∧ sourceOf 11 = some .linkUp ∧ sourceOf 12 = none
    ∧ ((after .reset running).source .linkUp).flag = false ∧ starting.phase ≠ .running
    ∧ heldUp.selected = none ∧ (after (.setEvent 10 1 7) { running with attention := running.attention.map (fun x => { x with flag := true }) }).selected
      = some .visitSettled := by decide +kernel

end Sys2Proof.Tests
end

section
/-! PROOFS. The ordinal formula and its inverse (R3): an ordinal is read as three digits, the car, the bogie of the car and the axle of
the bogie, each counted from 1. -/
namespace Sys2Proof.Machine

/-- The ordinal of axle `a` of bogie `b` of car `c` (R3). -/
def ordinalAt (c b a : Nat) : Nat := 4 * (c - 1) + 2 * (b - 1) + a

/-! ## The place read back from the ordinal -/

section
variable {c b a : Nat}

theorem carOf_ordinalAt (hc : 1 ≤ c) (hb : b ≤ 2) (ha1 : 1 ≤ a) (ha2 : a ≤ 2) : carOf (ordinalAt c b a) = c := by
  unfold carOf ordinalAt
  omega

/-- The bogie index counts the bogies of the cars before, two each (R3). -/
theorem bogieIndexOf_ordinalAt (hb : 1 ≤ b) (ha1 : 1 ≤ a) (ha2 : a ≤ 2) : bogieIndexOf (ordinalAt c b a) = 2 * (c - 1) + b := by
  unfold bogieIndexOf ordinalAt
  omega

/-- Counted from 0, the last two digits of an ordinal are its place within the car: whole cars drop out modulo 4. -/
theorem ordinalAt_pred_mod_four (hb : b ≤ 2) (ha1 : 1 ≤ a) (ha2 : a ≤ 2) :
    (ordinalAt c b a - 1) % 4 = 2 * (b - 1) + (a - 1) := by
  unfold ordinalAt
  omega

theorem bogieOf_ordinalAt (hb1 : 1 ≤ b) (hb2 : b ≤ 2) (ha1 : 1 ≤ a) (ha2 : a ≤ 2) : bogieOf (ordinalAt c b a) = b := by
  rw [bogieOf, ordinalAt_pred_mod_four hb2 ha1 ha2]
  omega

theorem axleOf_ordinalAt (ha1 : 1 ≤ a) (ha2 : a ≤ 2) : axleOf (ordinalAt c b a) = a := by
  unfold axleOf ordinalAt
  omega

end

/-! ## The place of an ordinal -/

/-- The ordinals of car `c` are the block of four that ends with `4 * c` (R3). -/
theorem carOf_eq_iff {c : Nat} (hc : 1 ≤ c) (n : Nat) : carOf n = c ↔ 4 * (c - 1) + 1 ≤ n ∧ n ≤ 4 * c := by
  unfold carOf
  omega

theorem carOf_mem_range {n : Nat} (h1 : 1 ≤ n) (h2 : n ≤ 64) : 1 ≤ carOf n ∧ carOf n ≤ 16 := by
  unfold carOf
  omega

theorem bogieOf_mem_range (n : Nat) : 1 ≤ bogieOf n ∧ bogieOf n ≤ 2 := by
  unfold bogieOf
  omega

theorem axleOf_mem_range (n : Nat) : 1 ≤ axleOf n ∧ axleOf n ≤ 2 := by
  unfold axleOf
  omega

/-- Every ordinal is the ordinal of its own place (R3). -/
theorem ordinalAt_place {n : Nat} (h : 1 ≤ n) : ordinalAt (carOf n) (bogieOf n) (axleOf n) = n := by
  unfold ordinalAt carOf bogieOf axleOf
  omega

end Sys2Proof.Machine

namespace Sys2Proof.Claims
open Sys2Proof.Machine

/-- Settles O12: the place is read back from the formula (which also makes it unique), and every ordinal has one. -/
theorem ordinalFormula : Obligations.OrdinalFormula := by
  refine ⟨?place, ?ordinal, ?block⟩
  case place =>
    intro c b a hc _ hb1 hb2 ha1 ha2
    exact ⟨carOf_ordinalAt hc hb2 ha1 ha2, bogieOf_ordinalAt hb1 hb2 ha1 ha2, axleOf_ordinalAt ha1 ha2,
      bogieIndexOf_ordinalAt hb1 ha1 ha2⟩
  case ordinal =>
    intro n h1 h64
    obtain ⟨hcar1, hcar16⟩ := carOf_mem_range h1 h64
    obtain ⟨hbogie1, hbogie2⟩ := bogieOf_mem_range n
    obtain ⟨haxle1, haxle2⟩ := axleOf_mem_range n
    refine ⟨⟨hcar1, hcar16, hbogie1, hbogie2, haxle1, haxle2, (ordinalAt_place h1).symm⟩, ?unique⟩
    intro c b a hc _ hb1 hb2 ha1 ha2 hn
    have hplace : n = ordinalAt c b a := hn
    rw [hplace]
    exact ⟨(carOf_ordinalAt hc hb2 ha1 ha2).symm, (bogieOf_ordinalAt hb1 hb2 ha1 ha2).symm, (axleOf_ordinalAt ha1 ha2).symm⟩
  case block =>
    intro c n hc _
    rw [carOf_eq_iff hc]
    -- the block of a car holds no 0, so `1 ≤ n` says nothing more
    exact ⟨fun h => ⟨by omega, h⟩, fun h => h.2⟩

end Sys2Proof.Claims
end

section
/-! PROOFS. The acceptance tests and the losses of a measurement (R34 to R38). -/
namespace Sys2Proof.Machine

variable (h : ProfileHeader) (cleanUp : Nat) (m : Measurement)

/-! ## The verdict -/

theorem wheelAccepted_iff (w : Wheel) : wheelAccepted h w = true ↔
    h.acceptThickness ≤ w.thickness ∧ w.height ≤ h.maxHeight ∧ h.minSteepness ≤ w.steepness ∧ w.defect = 0 := by
  simp [wheelAccepted, and_assoc]

/-- A measurement is ACCEPTED when each of its wheels is (R34). -/
theorem verdictOf_eq_accepted_iff :
    verdictOf h m = .accepted ↔ wheelAccepted h m.left = true ∧ wheelAccepted h m.right = true := by
  simp [verdictOf]

/-! ## The four losses -/

/-- The flange loss is a quotient by 4 rounded up: its fourfold reaches the dividend, and no whole unit less does (R35). -/
theorem flangeLossOf_roundsUp :
    max (h.nominalThickness - m.left.thickness) (h.nominalThickness - m.right.thickness) * h.restoreFactor ≤ 4 * flangeLossOf h m
      ∧ 4 * flangeLossOf h m
        < max (h.nominalThickness - m.left.thickness) (h.nominalThickness - m.right.thickness) * h.restoreFactor + 4 := by
  unfold flangeLossOf
  omega

/-- No rise, no height loss: the truncated difference is 0 there (R36). -/
theorem heightLossOf_eq_ite : heightLossOf h m =
    if max m.left.height m.right.height ≤ h.nominalHeight then 0
    else 2 * (max m.left.height m.right.height - h.nominalHeight) := by
  unfold heightLossOf Measurement.maxHeight
  split
  case isTrue hle => rw [Nat.sub_eq_zero_of_le hle]
  case isFalse => rfl

theorem defectLossOf_eq_ite : defectLossOf cleanUp m =
    if max m.left.defect m.right.defect = 0 then 0 else 2 * (max m.left.defect m.right.defect + cleanUp) := by
  simp only [defectLossOf, Measurement.maxDefect, beq_iff_eq]

/-! ## The real own loss -/

variable {h m}

theorem realOwnLossOf_of_accepted (hv : verdictOf h m = .accepted) : realOwnLossOf h cleanUp m = 0 := by
  simp only [realOwnLossOf, hv]

theorem realOwnLossOf_of_rejected (hv : verdictOf h m = .rejected) : realOwnLossOf h cleanUp m =
    max (max (flangeLossOf h m) (heightLossOf h m)) (max (defectLossOf cleanUp m) (minimumLossOf cleanUp)) := by
  simp only [realOwnLossOf, hv]

/-- A maximum of four is an upper bound of the four and one of them. -/
theorem max_of_four_isGreatest (a b c d : Nat) :
    (∀ x ∈ [a, b, c, d], x ≤ max (max a b) (max c d)) ∧ max (max a b) (max c d) ∈ [a, b, c, d] := by
  simp only [List.mem_cons, List.not_mem_nil, or_false]
  constructor
  · rintro x (rfl | rfl | rfl | rfl) <;> omega
  · omega

end Sys2Proof.Machine

namespace Sys2Proof.Claims
open Sys2Proof.Machine

/-- Settles O14: each clause is the rule of its loss; the eight comparisons are the four of each wheel, regrouped. -/
theorem lossesOfAMeasurement : Obligations.LossesOfAMeasurement := by
  intro h cleanUp m
  obtain ⟨hflangeLe, hflangeLt⟩ := flangeLossOf_roundsUp h m
  refine ⟨?verdict, hflangeLe, hflangeLt, heightLossOf_eq_ite h m, defectLossOf_eq_ite cleanUp m, rfl,
    realOwnLossOf_of_accepted cleanUp, ?rejected⟩
  case verdict =>
    rw [verdictOf_eq_accepted_iff, wheelAccepted_iff, wheelAccepted_iff]
    tauto
  case rejected =>
    intro hv
    rw [realOwnLossOf_of_rejected cleanUp hv]
    exact max_of_four_isGreatest _ _ _ _

end Sys2Proof.Claims
end

section
/-! PROOFS. The candidate target of a subject, waived or not, and the obstacles of a subject that lowers no other record (R57, R58, R61,
R62). -/
namespace Sys2Proof.Machine

/-! ## The smaller of a value and one that may be absent -/

theorem minWith_le_left (a : Nat) (b : Option Nat) : minWith a b ≤ a := by
  cases b with
  | none => exact Nat.le_refl a
  | some b => exact Nat.min_le_left a b

theorem minWith_le_of_mem {a t : Nat} {b : Option Nat} (h : t ∈ b) : minWith a b ≤ t := by
  obtain rfl : b = some t := h
  exact Nat.min_le_right a t

/-! ## The candidate target -/

/-- A waived subject has no group bounds (R58). -/
theorem candidate_of_waived {s : State} {n : Nat} (h : (s.record n).waived = true) (need : Nat) :
    s.candidate n need = minWith need (s.record n).target := by
  simp only [State.candidate, h, if_true]

/-- A subject that is not waived has its two groups' bounds (R57). -/
theorem candidate_of_not_waived {s : State} {n : Nat} (h : (s.record n).waived = false) (need : Nat) :
    s.candidate n need = minWith (minWith (minWith need (s.record n).target) (s.groupBound n (s.bogieGroup n)))
      (s.groupBound n (s.carGroup n)) := by
  simp only [State.candidate, h, Bool.false_eq_true, if_false]

/-- Group bounds only pull the candidate down from the subject's own figures (R57). -/
theorem candidate_le_own (s : State) (n need : Nat) : s.candidate n need ≤ minWith need (s.record n).target := by
  cases h : (s.record n).waived with
  | true => rw [candidate_of_waived h]
  | false =>
    rw [candidate_of_not_waived h]
    exact (minWith_le_left _ _).trans (minWith_le_left _ _)

/-! ## Obstacles on the subject alone -/

/-- A waived subject marks no lowering, whatever its target (R58). -/
theorem lowerings_of_waived {s : State} {n : Nat} (h : (s.record n).waived = true) (t : Nat) : s.lowerings n t = [] := by
  simp only [State.lowerings, h, if_true]

theorem subjectObstacle_names_subject {s : State} {n t : Nat} {h : Handed} {o : Nat × BlockReason}
    (ho : s.subjectObstacle n h t = some o) : o.1 = n := by
  simp only [State.subjectObstacle] at ho
  split_ifs at ho
  all_goals (obtain rfl := Option.some.inj ho; rfl)

/-- The subject's own REOPEN LIMIT makes it an obstacle, for this reason or for the one before it (R61). -/
theorem subjectObstacle_ne_none_of_ownReopenLimit {s : State} {n t : Nat} {h : Handed} (hlimit : s.ownReopenLimit n h t = true) :
    s.subjectObstacle n h t ≠ none := by
  simp only [State.subjectObstacle, if_pos hlimit]
  split_ifs <;> exact Option.some_ne_none _

/-- Without the subject's own REOPEN LIMIT, and with no lowering, the subject's obstacle is the one chosen (R62). -/
theorem chosenObstacle_alone {s : State} {n t : Nat} {h : Handed} (hlimit : s.ownReopenLimit n h t = false) :
    s.chosenObstacle n h t [] = s.subjectObstacle n h t := by
  simp only [State.chosenObstacle, hlimit, Bool.false_eq_true, if_false, List.filterMap_nil, List.append_nil]
  cases s.subjectObstacle n h t <;> rfl

theorem chosenObstacle_of_ownReopenLimit {s : State} {n t : Nat} {h : Handed} (hlimit : s.ownReopenLimit n h t = true)
    (ls : List Lowering) : s.chosenObstacle n h t ls = some (n, .reopenLimit) := by
  simp only [State.chosenObstacle, hlimit, if_true]

/-- A subject that lowers no other record is blocked exactly when it is an obstacle itself (R58, R62). -/
theorem chosenObstacle_alone_eq_none_iff (s : State) (n t : Nat) (h : Handed) :
    s.chosenObstacle n h t [] = none ↔ s.subjectObstacle n h t = none := by
  cases hlimit : s.ownReopenLimit n h t with
  | true =>
    rw [chosenObstacle_of_ownReopenLimit hlimit]
    exact iff_of_false (Option.some_ne_none _) (subjectObstacle_ne_none_of_ownReopenLimit hlimit)
  | false => rw [chosenObstacle_alone hlimit]

/-- A subject that lowers no other record names its own block (R58, R62). -/
theorem chosenObstacle_alone_names_subject {s : State} {n t : Nat} {h : Handed} {o : Nat × BlockReason}
    (ho : s.chosenObstacle n h t [] = some o) : o.1 = n := by
  cases hlimit : s.ownReopenLimit n h t with
  | true =>
    rw [chosenObstacle_of_ownReopenLimit hlimit] at ho
    obtain rfl := Option.some.inj ho
    rfl
  | false => exact subjectObstacle_names_subject ((chosenObstacle_alone hlimit).symm.trans ho)

end Sys2Proof.Machine

namespace Sys2Proof.Claims
open Sys2Proof.Machine

/-! ## The model's figures are those of the statements -/

theorem lowest_singleton (a : Nat) : lowest [some a] = some a := rfl

/-- A value that may be absent is taken into the one before it by `minWith`. -/
theorem lowest_cons_cons (a : Nat) (b : Option Nat) (l : List (Option Nat)) :
    lowest (some a :: b :: l) = lowest (some (minWith a b) :: l) := by
  cases b with
  | none => rfl
  | some b => simp only [lowest, minWith, List.filterMap_cons, List.min?_cons']; rfl

/-- The counted targets are taken of the others alone, whether the counted members are picked before or while their targets are read. -/
theorem countedTargets_others (s : State) (n : Nat) (members : List Nat) :
    s.countedTargets (members.filter (· != n)) =
      (members.filter (fun m => m != n && (s.record m).counted)).filterMap (fun m => (s.record m).target) := by
  simp only [State.countedTargets, List.filterMap_filter]
  refine List.filterMap_congr fun m _ => ?_
  cases m != n <;> simp

theorem groupBound_eq_othersBound (s : State) (n : Nat) (g : Option Group) : s.groupBound n g = othersBound s n g := by
  cases g with
  | none => rfl
  | some g =>
    simp only [State.groupBound, othersBound, State.floorOf, Option.bind_some, countedTargets_others]

/-- Settles O16: the candidate folds its figures by `minWith`, as `lowest` does; a waived subject has no lowerings, so that only the
subject can be an obstacle. -/
theorem candidateTargetIsTheSmallest : Obligations.CandidateTargetIsTheSmallest := by
  intro s n need
  refine ⟨?least, ?notAbove, ?waived⟩
  case least =>
    cases h : (s.record n).waived with
    | true => rw [if_pos rfl, candidate_of_waived h, lowest_cons_cons, lowest_singleton]
    | false =>
      rw [if_neg Bool.false_ne_true, candidate_of_not_waived h, groupBound_eq_othersBound, groupBound_eq_othersBound,
        lowest_cons_cons, lowest_cons_cons, lowest_cons_cons, lowest_singleton]
  case notAbove =>
    exact fun old hold => (candidate_le_own s n need).trans (minWith_le_of_mem hold)
  case waived =>
    exact fun h t => ⟨lowerings_of_waived h t,
      fun handed => ⟨chosenObstacle_alone_eq_none_iff s n t handed, fun _ => chosenObstacle_alone_names_subject⟩⟩

end Sys2Proof.Claims
end

section
/-! PROOFS. The checks of a staging command and what WRITE POINTS answers (R189, R190). -/
namespace Sys2Proof.Machine

/-! ## A host command that starts no condition -/

/-- A host command that writes none of the fields a condition reads ends with its own writes and its answer (R202, R208). -/
theorem portCommand_of_same_conditions {i : Instr} {owner : State → Taken} {s t : State} {r : Reply} (h : s.phase = .running)
    (ho : owner s = (t, r)) (hr : t.records = s.records) (hl : t.reopenList = s.reopenList) (hm : t.moveState = s.moveState)
    (hv : t.visit = s.visit) : portCommand i owner s = .next (t.answerCommand i r) := by
  rw [portCommand_running h, ho, State.flagStarts_of_same hr hl hm hv]

/-! ## The two checks of a staging command -/

theorem whenOpen_of_closed {s : State} (h : s.catalogue = .closed) (t : Taken) : whenOpen s t = refuse s .catalogueClosed := by
  simp only [whenOpen, h]

theorem whenOpen_of_committing {s : State} (h : s.catalogue = .committing) (t : Taken) : whenOpen s t = refuse s .storeBusy := by
  simp only [whenOpen, h]

theorem whenOpen_of_opened {s : State} (h : s.catalogue = .opened) (t : Taken) : whenOpen s t = t := by
  simp only [whenOpen, h]

/-! ## WRITE POINTS -/

theorem exec_writePoints (start : Nat) (points : List Point) (s : State) :
    exec (.writePoints start points) s = execWritePoints start points s := by
  rfl

section
variable {start : Nat} {points : List Point} {s : State}

/-- A staging page that holds no profile has no slots to write (R190). -/
theorem takeWritePoints_of_no_profile (hopen : s.catalogue = .opened) (hno : ∀ n image, s.staging ≠ .profile n image) :
    takeWritePoints start points s = refuse s .nothingStaged := by
  rw [takeWritePoints, whenOpen_of_opened hopen]
  cases hst : s.staging with
  | profile n image => exact absurd hst (hno n image)
  | empty | limits | erase => rfl

/-- On a staged profile WRITE POINTS has its range check left, and then writes the slots (R190). -/
theorem takeWritePoints_of_profile {n : Nat} {image : ProfileImage} (hopen : s.catalogue = .opened)
    (hst : s.staging = .profile n image) : takeWritePoints start points s =
      if 47 < start ∨ points.length < 1 ∨ 16 < points.length then refuse s .outOfRange
      else done { s with staging := .profile n { image with slots := writeSlots image.slots start points } }
        (be 1 ((start + points.length) % 48)) := by
  rw [takeWritePoints, whenOpen_of_opened hopen]
  simp only [hst, Bool.or_eq_true, decide_eq_true_eq, or_assoc]

end

end Sys2Proof.Machine

namespace Sys2Proof.Claims
open Sys2Proof.Machine

section
variable {s : State} {start : Nat} {points : List Point}

/-- WRITE POINTS refused: the answer is all that changes (R4, R190). -/
theorem exec_writePoints_refused {reason : Reason} (hrun : s.phase = .running)
    (htake : takeWritePoints start points s = refuse s reason) :
    exec (.writePoints start points) s = replied s (.writePoints start points) reason [] := by
  rw [exec_writePoints, execWritePoints]
  exact portCommand_unchanged hrun htake

/-- WRITE POINTS accepted: the staging page and the answer are all that changes (R190). -/
theorem exec_writePoints_done {staged : Staging} {body : List Byte} (hrun : s.phase = .running)
    (htake : takeWritePoints start points s = done { s with staging := staged } body) :
    exec (.writePoints start points) s = replied { s with staging := staged } (.writePoints start points) .done body := by
  rw [exec_writePoints, execWritePoints]
  exact portCommand_of_same_conditions hrun htake rfl rfl rfl rfl

end

/-- Settles O45: the catalogue is checked before the staging page, and the staging page before the range. At most 16 points are
written, fewer than the 48 slots, so that the wrap never writes a slot twice. -/
theorem writePointsTable : Obligations.WritePointsTable := by
  intro s start points hrun
  refine ⟨?closed, ?committing, ?noProfile, ?profile⟩
  case closed => exact fun hcat => exec_writePoints_refused hrun (whenOpen_of_closed hcat _)
  case committing => exact fun hcat => exec_writePoints_refused hrun (whenOpen_of_committing hcat _)
  case noProfile => exact fun hcat hno => exec_writePoints_refused hrun (takeWritePoints_of_no_profile hcat hno)
  case profile =>
    intro n image hcat hst
    have htake := takeWritePoints_of_profile (start := start) (points := points) hcat hst
    refine ⟨?outOfRange, ?accepted⟩
    case outOfRange => exact fun hbad => exec_writePoints_refused hrun (by rw [htake, if_pos hbad])
    case accepted =>
      intro hstart hsome hfew
      have hgood : ¬(47 < start ∨ points.length < 1 ∨ 16 < points.length) := by omega
      rw [if_neg hgood] at htake
      exact ⟨writeSlots image.slots start points, exec_writePoints_done hrun htake,
        fun k p hp => writeSlots_named points image.slots start k p (by omega) hp,
        fun j _ hunnamed => writeSlots_unnamed points image.slots start j hunnamed⟩

end Sys2Proof.Claims
end

section
/-! PROOFS. The number of a source, the ATTENTION line of a programmed part, and what SET EVENT answers (R206, R209, R212). -/
namespace Sys2Proof.Machine

/-! ## The source a number names -/

/-- The sources are listed in the order of their numbers (R206). -/
theorem index_getElem_allSources (n : Fin 12) : (allSources[n.val]'n.isLt).index = n := by
  decide +revert

theorem sourceOf_of_above {n : Nat} (h : 11 < n) : sourceOf n = none :=
  List.getElem?_eq_none h

theorem exists_sourceOf {n : Nat} (h : n ≤ 11) : ∃ k : Source, sourceOf n = some k ∧ k.index.val = n := by
  have hlt : n < 12 := by omega
  exact ⟨allSources[n]'hlt, List.getElem?_eq_getElem hlt, congrArg Fin.val (index_getElem_allSources ⟨n, hlt⟩)⟩

/-! ## The ATTENTION line -/

theorem SourceState.asserts_iff (x : SourceState) : x.asserts = true ↔ x.flag = true ∧ x.enable = true ∧ 1 ≤ x.level := by
  simp only [SourceState.asserts, Bool.and_eq_true, decide_eq_true_eq, and_assoc]

/-- The line is asserted when a source asserts it (R209). -/
theorem State.attentionLine_iff (s : State) : s.attentionLine = true ↔ ∃ k : Source, (s.source k).asserts = true := by
  simp only [State.attentionLine, List.any_eq_true, mem_allSources, true_and]

/-! ## A source programmed -/

section
variable (s : State) (k : Source) (enable level : Nat)

/-- Programming a source leaves its flag and every other source (R212). -/
theorem State.source_program (j : Source) : (s.program k enable level).source j =
    if j = k then { flag := (s.source k).flag, enable := enable == 1, level := level } else s.source j := by
  by_cases h : j = k
  · rw [if_pos h, h]
    exact State.source_setSource_same s k _
  · rw [if_neg h]
    exact State.source_setSource_ne s j k _ h

/-- After a source is programmed the line is asserted by that source, as programmed, or by another, as it stood (R209, R212). -/
theorem State.attentionLine_program_iff : (s.program k enable level).attentionLine = true ↔
    ((s.source k).flag = true ∧ enable = 1 ∧ 1 ≤ level) ∨ ∃ j : Source, j ≠ k ∧ (s.source j).asserts = true := by
  simp only [State.attentionLine_iff, State.source_program]
  constructor
  · rintro ⟨j, hj⟩
    by_cases h : j = k
    · rw [if_pos h, SourceState.asserts_iff, beq_iff_eq] at hj
      exact .inl hj
    · rw [if_neg h] at hj
      exact .inr ⟨j, h, hj⟩
  · rintro (hk | ⟨j, h, hj⟩)
    · refine ⟨k, ?_⟩
      rwa [if_pos rfl, SourceState.asserts_iff, beq_iff_eq]
    · refine ⟨j, ?_⟩
      rwa [if_neg h]

end

/-! ## SET EVENT -/

theorem exec_setEvent (number enable level : Nat) (s : State) :
    exec (.setEvent number enable level) s = execSetEvent number enable level s := by
  rfl

section
variable {number enable level : Nat} {s : State}

/-- A number that names no source is refused for the same reason as an enable or a level out of its range (R212). -/
theorem takeSetEvent_outOfRange (h : 11 < number ∨ 1 < enable ∨ 7 < level) :
    takeSetEvent number enable level s = refuse s .outOfRange := by
  by_cases hnumber : 11 < number
  · simp only [takeSetEvent, sourceOf_of_above hnumber]
  · obtain ⟨k, hk, _⟩ := exists_sourceOf (Nat.le_of_not_lt hnumber)
    have hbad : 1 < enable ∨ 7 < level := h.resolve_left hnumber
    simp only [takeSetEvent, hk, Bool.or_eq_true, decide_eq_true_eq, if_pos hbad]

theorem takeSetEvent_inRange {k : Source} (hk : sourceOf number = some k) (henable : enable ≤ 1) (hlevel : level ≤ 7) :
    takeSetEvent number enable level s =
      done (s.program k enable level) (sourceBytes ((s.program k enable level).source k)) := by
  have hgood : ¬(1 < enable ∨ 7 < level) := by omega
  simp only [takeSetEvent, hk, Bool.or_eq_true, decide_eq_true_eq, if_neg hgood]

end

end Sys2Proof.Machine

namespace Sys2Proof.Claims
open Sys2Proof.Machine

theorem flagByte_eq_bit (b : Bool) : flagByte b = bit b := by
  cases b <;> rfl

/-- An enable of 0 or 1 is sent back as it was given (R212, R214). -/
theorem sourceBytes_program (s : State) (k : Source) {enable : Nat} (henable : enable ≤ 1) (level : Nat) :
    sourceBytes ((s.program k enable level).source k) = bit (s.source k).flag ++ be 1 enable ++ be 1 level := by
  have hyesNo : yesNo (enable == 1) = enable := by
    obtain rfl | rfl : enable = 0 ∨ enable = 1 := by omega
    all_goals rfl
  rw [State.source_program, if_pos rfl, sourceBytes, flagByte_eq_bit, flagByte, hyesNo]

/-- SET EVENT accepted: the named source and the answer are all that changes, for no condition reads a source (R208, R212). -/
theorem exec_setEvent_done {s : State} {number enable level : Nat} {k : Source} (hrun : s.phase = .running)
    (hk : sourceOf number = some k) (henable : enable ≤ 1) (hlevel : level ≤ 7) :
    exec (.setEvent number enable level) s = replied (s.program k enable level) (.setEvent number enable level) .done
      (bit (s.source k).flag ++ be 1 enable ++ be 1 level) := by
  have htake := takeSetEvent_inRange (s := s) hk henable hlevel
  rw [sourceBytes_program s k henable] at htake
  rw [exec_setEvent, execSetEvent]
  exact portCommand_of_same_conditions hrun htake rfl rfl rfl rfl

/-- Settles O50: the line after the step is asserted by the programmed source or by another source as it stood, which gives both
clauses about the line. -/
theorem setEventTable : Obligations.SetEventTable := by
  intro s number enable level hrun
  refine ⟨?outOfRange, ?accepted⟩
  case outOfRange => exact fun hbad => portCommand_unchanged hrun (takeSetEvent_outOfRange hbad)
  case accepted =>
    intro hnumber henable hlevel
    obtain ⟨k, hk, hindex⟩ := exists_sourceOf hnumber
    have hline := State.attentionLine_program_iff s k enable level
    refine ⟨k, hindex, s.program k enable level, exec_setEvent_done hrun hk henable hlevel, rfl,
      State.source_program s k enable level, ?asserted, ?deasserted⟩
    case asserted => exact fun hon hsome hflag => hline.mpr (.inl ⟨hflag, hon, hsome⟩)
    case deasserted =>
      intro hoff hothers
      rw [Bool.eq_false_iff, Ne, hline]
      rintro (⟨_, hon, hsome⟩ | ⟨j, hj, hasserts⟩)
      · omega
      · exact hothers j hj ((SourceState.asserts_iff _).mp hasserts)

end Sys2Proof.Claims
end

section
/-! PROOFS. Which record is an obstacle and which obstacle names the block (R61, R62). -/
namespace Sys2Proof.Machine

/-! ## The tests of an evaluation -/

theorem Record.above_iff (r : Record) (d : Nat) : r.above d = true ↔ ∃ c ∈ r.current, d < c := by
  unfold Record.above
  cases r.current <;> simp

theorem wouldReopen_iff (v : LimitValues) (r : Record) (t : Nat) :
    wouldReopen v r t = true ↔ r.stage = .finished ∧ ∃ c ∈ r.current, t + v.finishTol < c := by
  simp only [wouldReopen, Bool.and_eq_true, beq_iff_eq, Record.above_iff]

/-- The stage test as its three conditions (R65). -/
theorem finishes_iff (v : LimitValues) (r : Record) (h : Handed) (t : Nat) : finishes v r h t = true ↔
    r.hold = .free ∧ (h.loss = 0 ∨ h.exempt = true) ∧ ¬ ∃ c ∈ r.current, t + v.finishTol < c := by
  rw [← Record.above_iff]
  simp only [finishes, Bool.and_eq_true, Bool.or_eq_true, beq_iff_eq, Bool.not_eq_true', Bool.not_eq_true, and_assoc]

theorem fallsBelow_iff (t : Nat) (o : Option Nat) : fallsBelow t o = true ↔ ∃ old ∈ o, t < old := by
  cases o <;> simp [fallsBelow]

/-! ## The lowest of several obstacles -/

theorem lowestObstacle_eq_none_iff (os : List (Nat × BlockReason)) : lowestObstacle os = none ↔ os = [] := by
  cases os with
  | nil => exact iff_of_true rfl rfl
  | cons o rest =>
    refine iff_of_false ?_ (List.cons_ne_nil o rest)
    simp only [lowestObstacle]
    split
    · exact Option.some_ne_none o
    · split <;> exact Option.some_ne_none _

/-- The obstacle named is one of them, and none has a lower ordinal (R62). -/
theorem lowestObstacle_some {os : List (Nat × BlockReason)} {o : Nat × BlockReason} (h : lowestObstacle os = some o) :
    o ∈ os ∧ ∀ p ∈ os, o.1 ≤ p.1 := by
  induction os generalizing o with
  | nil => cases h
  | cons q rest ih =>
    simp only [lowestObstacle] at h
    cases hb : lowestObstacle rest with
    | none =>
      rw [hb] at h
      obtain rfl := Option.some.inj h
      obtain rfl := (lowestObstacle_eq_none_iff rest).mp hb
      simp
    | some b =>
      obtain ⟨hmem, hle⟩ := ih hb
      rw [hb] at h
      simp only at h
      split at h
      case isTrue hlt =>
        obtain rfl := Option.some.inj h
        exact ⟨List.mem_cons_of_mem q hmem, List.forall_mem_cons.mpr ⟨hlt.le, hle⟩⟩
      case isFalse hge =>
        obtain rfl := Option.some.inj h
        exact ⟨List.mem_cons_self, List.forall_mem_cons.mpr ⟨le_rfl, fun p hp => (Nat.le_of_not_lt hge).trans (hle p hp)⟩⟩

/-- Where the subject's own REOPEN LIMIT does not apply, the lowest obstacle names the block (R62). -/
theorem chosenObstacle_of_not_ownReopenLimit {s : State} {n t : Nat} {h : Handed} (hlimit : s.ownReopenLimit n h t = false)
    (ls : List Lowering) :
    s.chosenObstacle n h t ls = lowestObstacle ((s.subjectObstacle n h t).toList ++ ls.filterMap s.memberObstacle) := by
  simp only [State.chosenObstacle, hlimit, Bool.false_eq_true, if_false]

theorem ownReopenLimit_iff (s : State) (n t : Nat) (h : Handed) : s.ownReopenLimit n h t = true ↔
    (s.record n).stage = .finished ∧ finishes s.limits (s.record n) h t = false ∧ (s.record n).reopenCount = s.limits.reopenLimit := by
  simp only [State.ownReopenLimit, Bool.and_eq_true, beq_iff_eq, Bool.not_eq_true', and_assoc]

end Sys2Proof.Machine

namespace Sys2Proof.Claims
open Sys2Proof.Machine

/-- Settles O18: the Boolean tests are read as the conditions they decide, and the lowest obstacle is found by recursion on the
list. -/
theorem obstacleThatNamesTheBlock : Obligations.ObstacleThatNamesTheBlock := by
  refine ⟨?member, ?subject, ?chosen⟩
  case member =>
    intro s l
    simp only [State.memberObstacle, Bool.and_eq_true, wouldReopen_iff, beq_iff_eq, and_assoc]
  case subject =>
    intro s n t h
    refine ⟨?own, ?obstacle⟩
    case own => rw [ownReopenLimit_iff, ← finishes_iff, Bool.not_eq_true]
    case obstacle => simp only [State.subjectObstacle, Bool.and_eq_true, fallsBelow_iff]
  case chosen =>
    intro s n t h ls
    refine ⟨fun hlimit => chosenObstacle_of_ownReopenLimit hlimit ls, fun hlimit => ?_⟩
    rw [chosenObstacle_of_not_ownReopenLimit hlimit]
    exact ⟨lowestObstacle_eq_none_iff _, fun o => lowestObstacle_some⟩

end Sys2Proof.Claims
end

section
/-! PROOFS. The groups of a loaded consist: their ordinals, their indices, and which groups two ordinals share (R48, R54). -/
namespace Sys2Proof.Machine

/-! ## Groups as built -/

theorem index_buildBogieGroups (v : LimitValues) (cars : List Car) {c : Nat} (hc : 1 ≤ c) :
    (buildBogieGroups v cars c).map (·.index) = List.range' (2 * c - 1) (2 * cars.length) := by
  induction cars generalizing c with
  | nil => rfl
  | cons car rest ih =>
    have hlen : 2 * (car :: rest).length = 2 * rest.length + 1 + 1 := by simp only [List.length_cons]; omega
    have hone : 2 * c - 1 + 1 = 2 * c := by omega
    have htwo : 2 * c - 1 + 1 + 1 = 2 * (c + 1) - 1 := by omega
    rw [hlen, List.range'_succ, List.range'_succ, htwo, ← ih (by omega), hone]
    rfl

theorem index_buildCarGroups (v : LimitValues) (cars : List Car) (c : Nat) :
    (buildCarGroups v cars c).map (·.index) = List.range' c cars.length := by
  induction cars generalizing c with
  | nil => rfl
  | cons car rest ih =>
    rw [List.length_cons, List.range'_succ, ← ih]
    rfl

/-- A bogie group is built by its index and its class (R48). -/
theorem mem_buildBogieGroups {v : LimitValues} {cars : List Car} {c : Nat} {g : Group} (h : g ∈ buildBogieGroups v cars c) :
    ∃ cls, g = buildBogieGroup v g.index cls := by
  induction cars generalizing c with
  | nil => cases h
  | cons car rest ih =>
    simp only [buildBogieGroups, List.mem_cons] at h
    rcases h with rfl | rfl | h
    · exact ⟨_, rfl⟩
    · exact ⟨_, rfl⟩
    · exact ih h

/-- A car group is built by its index and its class (R48). -/
theorem mem_buildCarGroups {v : LimitValues} {cars : List Car} {c : Nat} {g : Group} (h : g ∈ buildCarGroups v cars c) :
    ∃ cls, g = buildCarGroup v g.index cls := by
  induction cars generalizing c with
  | nil => cases h
  | cons car rest ih =>
    simp only [buildCarGroups, List.mem_cons] at h
    rcases h with rfl | h
    · exact ⟨_, rfl⟩
    · exact ih h

/-- The bogie group of k is that of the two ordinals whose bogie index is k (R3, R48). -/
theorem mem_bogieMembers {k : Nat} (hk : 1 ≤ k) (m : Nat) : m ∈ [2 * k - 1, 2 * k] ↔ 1 ≤ m ∧ bogieIndexOf m = k := by
  simp only [List.mem_cons, List.not_mem_nil, or_false, bogieIndexOf]
  omega

/-- The car group of c is that of the four ordinals of car c (R3, R48). -/
theorem mem_carMembers {c : Nat} (hc : 1 ≤ c) (m : Nat) : m ∈ [4 * c - 3, 4 * c - 2, 4 * c - 1, 4 * c] ↔ 1 ≤ m ∧ carOf m = c := by
  simp only [List.mem_cons, List.not_mem_nil, or_false, carOf]
  omega

/-! ## The groups of a state that keeps their laws -/

section
variable {s : State}

theorem index_bogieGroups (safe : s.GroupsSafe) : s.bogieGroups.map (·.index) = List.range' 1 (2 * s.consist.length) := by
  rw [← index_buildBogieGroups s.limits s.consist le_rfl, ← safe.1, List.map_map]
  rfl

theorem index_carGroups (safe : s.GroupsSafe) : s.carGroups.map (·.index) = List.range' 1 s.consist.length := by
  rw [← index_buildCarGroups s.limits s.consist 1, ← safe.2.1, List.map_map]
  rfl

theorem bogieGroup_index_range (safe : s.GroupsSafe) {g : Group} (hg : g ∈ s.bogieGroups) :
    1 ≤ g.index ∧ g.index ≤ 2 * s.consist.length := by
  have hmem : g.index ∈ List.range' 1 (2 * s.consist.length) := index_bogieGroups safe ▸ List.mem_map_of_mem hg
  rw [List.mem_range'_1] at hmem
  omega

theorem carGroup_index_range (safe : s.GroupsSafe) {g : Group} (hg : g ∈ s.carGroups) :
    1 ≤ g.index ∧ g.index ≤ s.consist.length := by
  have hmem : g.index ∈ List.range' 1 s.consist.length := index_carGroups safe ▸ List.mem_map_of_mem hg
  rw [List.mem_range'_1] at hmem
  omega

/-- A bogie group's members, by the bogie index of an ordinal (R48). -/
theorem mem_members_bogieGroup (safe : s.GroupsSafe) {g : Group} (hg : g ∈ s.bogieGroups) (m : Nat) :
    m ∈ g.members ↔ 1 ≤ m ∧ bogieIndexOf m = g.index := by
  have hbuilt : { g with floor := none } ∈ buildBogieGroups s.limits s.consist 1 := safe.1 ▸ List.mem_map_of_mem hg
  obtain ⟨cls, hcls⟩ := mem_buildBogieGroups hbuilt
  have hmembers : g.members = [2 * g.index - 1, 2 * g.index] := congrArg Group.members hcls
  rw [hmembers, mem_bogieMembers (bogieGroup_index_range safe hg).1]

/-- A car group's members in ascending ordinal (R48). -/
theorem members_carGroup (safe : s.GroupsSafe) {g : Group} (hg : g ∈ s.carGroups) :
    g.members = [4 * g.index - 3, 4 * g.index - 2, 4 * g.index - 1, 4 * g.index] := by
  have hbuilt : { g with floor := none } ∈ buildCarGroups s.limits s.consist 1 := safe.2.1 ▸ List.mem_map_of_mem hg
  obtain ⟨cls, hcls⟩ := mem_buildCarGroups hbuilt
  exact congrArg Group.members hcls

/-- A car group's members, by the car of an ordinal (R48). -/
theorem mem_members_carGroup (safe : s.GroupsSafe) {g : Group} (hg : g ∈ s.carGroups) (m : Nat) :
    m ∈ g.members ↔ 1 ≤ m ∧ carOf m = g.index := by
  rw [members_carGroup safe hg, mem_carMembers (carGroup_index_range safe hg).1]

/-- Two bogie groups of one index are one group. -/
theorem bogieGroup_eq_of_index (safe : s.GroupsSafe) {g g' : Group} (hg : g ∈ s.bogieGroups) (hg' : g' ∈ s.bogieGroups)
    (h : g.index = g'.index) : g = g' :=
  List.inj_on_of_nodup_map (by rw [index_bogieGroups safe]; exact List.nodup_range' ..) hg hg' h

/-- Two car groups of one index are one group. -/
theorem carGroup_eq_of_index (safe : s.GroupsSafe) {g g' : Group} (hg : g ∈ s.carGroups) (hg' : g' ∈ s.carGroups)
    (h : g.index = g'.index) : g = g' :=
  List.inj_on_of_nodup_map (by rw [index_carGroups safe]; exact List.nodup_range' ..) hg hg' h

end

/-! ## The groups of an ordinal -/

section
variable {s : State} {n : Nat} {g : Group}

theorem bogieGroup_some (h : s.bogieGroup n = some g) : g ∈ s.bogieGroups ∧ g.index = bogieIndexOf n :=
  ⟨List.mem_of_find?_eq_some h, by simpa using List.find?_some h⟩

theorem carGroup_some (h : s.carGroup n = some g) : g ∈ s.carGroups ∧ g.index = carOf n :=
  ⟨List.mem_of_find?_eq_some h, by simpa using List.find?_some h⟩

/-- The bogie group that holds an ordinal is its bogie group (R48). -/
theorem bogieGroup_eq_some_iff (safe : s.GroupsSafe) (h1 : 1 ≤ n) : s.bogieGroup n = some g ↔ g ∈ s.bogieGroups ∧ n ∈ g.members := by
  constructor
  · intro h
    obtain ⟨hg, hindex⟩ := bogieGroup_some h
    exact ⟨hg, (mem_members_bogieGroup safe hg n).mpr ⟨h1, hindex.symm⟩⟩
  · rintro ⟨hg, hn⟩
    have hindex := ((mem_members_bogieGroup safe hg n).mp hn).2
    cases hfind : s.bogieGroup n with
    | none =>
      have hno := List.find?_eq_none.mp hfind g hg
      simp [hindex] at hno
    | some g' =>
      obtain ⟨hg', hindex'⟩ := bogieGroup_some hfind
      rw [bogieGroup_eq_of_index safe hg' hg (hindex'.trans hindex)]

/-- The car group that holds an ordinal is its car group (R48). -/
theorem carGroup_eq_some_iff (safe : s.GroupsSafe) (h1 : 1 ≤ n) : s.carGroup n = some g ↔ g ∈ s.carGroups ∧ n ∈ g.members := by
  constructor
  · intro h
    obtain ⟨hg, hindex⟩ := carGroup_some h
    exact ⟨hg, (mem_members_carGroup safe hg n).mpr ⟨h1, hindex.symm⟩⟩
  · rintro ⟨hg, hn⟩
    have hindex := ((mem_members_carGroup safe hg n).mp hn).2
    cases hfind : s.carGroup n with
    | none =>
      have hno := List.find?_eq_none.mp hfind g hg
      simp [hindex] at hno
    | some g' =>
      obtain ⟨hg', hindex'⟩ := carGroup_some hfind
      rw [carGroup_eq_of_index safe hg' hg (hindex'.trans hindex)]

/-- Ordinals of one bogie are ordinals of one car (R3). -/
theorem carOf_eq_of_bogieIndexOf_eq {m : Nat} (h : bogieIndexOf m = bogieIndexOf n) : carOf m = carOf n := by
  unfold bogieIndexOf at h
  unfold carOf
  omega

/-- Every group lies within one car (R48). -/
theorem carOf_eq_of_mem_members (safe : s.GroupsSafe) (hg : g ∈ s.bogieGroups ∨ g ∈ s.carGroups) {m : Nat} (hm : m ∈ g.members)
    (hn : n ∈ g.members) : carOf m = carOf n := by
  rcases hg with hg | hg
  · rw [mem_members_bogieGroup safe hg] at hm hn
    exact carOf_eq_of_bogieIndexOf_eq (hm.2.trans hn.2.symm)
  · rw [mem_members_carGroup safe hg] at hm hn
    exact hm.2.trans hn.2.symm

/-- No group has a member 0. -/
theorem one_le_of_mem_members (safe : s.GroupsSafe) (hg : g ∈ s.bogieGroups ∨ g ∈ s.carGroups) {m : Nat} (hm : m ∈ g.members) :
    1 ≤ m := by
  rcases hg with hg | hg
  · exact ((mem_members_bogieGroup safe hg m).mp hm).1
  · exact ((mem_members_carGroup safe hg m).mp hm).1

/-- The members of every group are ordinals of the consist (R48). -/
theorem le_recordCount_of_mem_members (safe : s.GroupsSafe) (hg : g ∈ s.bogieGroups ∨ g ∈ s.carGroups) {m : Nat}
    (hm : m ∈ g.members) : m ≤ s.recordCount := by
  rcases hg with hg | hg
  · have hrange := bogieGroup_index_range safe hg
    rw [mem_members_bogieGroup safe hg] at hm
    simp only [bogieIndexOf, State.recordCount] at *
    omega
  · have hrange := carGroup_index_range safe hg
    rw [mem_members_carGroup safe hg] at hm
    simp only [carOf, State.recordCount] at *
    omega

/-- An ordinal of the consist has its two groups (R48). -/
theorem exists_groups (safe : s.GroupsSafe) (h1 : 1 ≤ n) (hn : n ≤ s.recordCount) :
    (∃ gb, s.bogieGroup n = some gb) ∧ ∃ gc, s.carGroup n = some gc := by
  simp only [State.recordCount] at hn
  constructor
  · have hindex : bogieIndexOf n ∈ s.bogieGroups.map (·.index) := by
      rw [index_bogieGroups safe, List.mem_range'_1, bogieIndexOf]
      omega
    obtain ⟨g, hg, hgi⟩ := List.mem_map.mp hindex
    exact ⟨g, (bogieGroup_eq_some_iff safe h1).mpr ⟨hg, (mem_members_bogieGroup safe hg n).mpr ⟨h1, hgi.symm⟩⟩⟩
  · have hindex : carOf n ∈ s.carGroups.map (·.index) := by
      rw [index_carGroups safe, List.mem_range'_1, carOf]
      omega
    obtain ⟨g, hg, hgi⟩ := List.mem_map.mp hindex
    exact ⟨g, (carGroup_eq_some_iff safe h1).mpr ⟨hg, (mem_members_carGroup safe hg n).mpr ⟨h1, hgi.symm⟩⟩⟩

end

end Sys2Proof.Machine
end

section
/-! PROOFS. The cascade in closed form, and that it leaves no bound of any group to apply (R57, R59, R60). -/
namespace Sys2Proof.Machine

/-! ## Counted targets -/

theorem mem_countedTargets (s : State) (ms : List Nat) (x : Nat) :
    x ∈ s.countedTargets ms ↔ ∃ m ∈ ms, (s.record m).counted = true ∧ (s.record m).target = some x := by
  simp only [State.countedTargets, List.mem_filterMap]
  refine exists_congr fun m => and_congr_right fun _ => ?_
  cases (s.record m).counted <;> simp

theorem counted_iff (r : Record) : r.counted = true ↔ r.target.isSome = true ∧ r.stage ≠ .condemned ∧ r.waived = false := by
  simp only [Record.counted, Bool.and_eq_true, bne_iff_ne, Bool.not_eq_true', and_assoc]

/-- A counted member has a target (R50). -/
theorem exists_target_of_counted {r : Record} (h : r.counted = true) : ∃ old, r.target = some old :=
  Option.isSome_iff_exists.mp ((counted_iff r).mp h).1

/-- In a group that keeps its laws two counted targets differ by no more than the tolerance (R52). -/
theorem counted_spread {s : State} {g : Group} (safe : s.GroupSafe g) {a b x y : Nat} (ha : a ∈ g.members) (hb : b ∈ g.members)
    (hca : (s.record a).counted = true) (hcb : (s.record b).counted = true) (hx : (s.record a).target = some x)
    (hy : (s.record b).target = some y) : x ≤ y + g.tolerance :=
  safe.2 x ((mem_countedTargets s _ x).mpr ⟨a, ha, hca, hx⟩) y ((mem_countedTargets s _ y).mpr ⟨b, hb, hcb, hy⟩)

/-! ## The candidate stands within the bounds of its groups -/

theorem groupBound_le {s : State} {n m x : Nat} {g : Group} (hm : m ∈ g.members) (hne : m ≠ n)
    (hc : (s.record m).counted = true) (hx : (s.record m).target = some x) :
    ∃ b ∈ s.groupBound n (some g), b ≤ x + g.tolerance := by
  have hmem : x ∈ s.countedTargets (g.members.filter (· != n)) :=
    (mem_countedTargets s _ x).mpr ⟨m, by simpa using ⟨hm, hne⟩, hc, hx⟩
  simp only [State.groupBound, State.floorOf]
  cases hmin : (s.countedTargets (g.members.filter (· != n))).min? with
  | none =>
    rw [List.min?_eq_none_iff.mp hmin] at hmem
    cases hmem
  | some b =>
    have hle := (List.min?_eq_some_iff.mp hmin).2 x hmem
    exact ⟨b + g.tolerance, rfl, by omega⟩

section
variable {s : State} {n need : Nat} {gb gc : Group}

/-- The candidate exceeds no counted member of the bogie by more than the bogie's tolerance (R57). -/
theorem candidate_le_bogie {m x : Nat} (hw : (s.record n).waived = false) (hgb : s.bogieGroup n = some gb)
    (hm : m ∈ gb.members) (hne : m ≠ n) (hc : (s.record m).counted = true) (hx : (s.record m).target = some x) :
    s.candidate n need ≤ x + gb.tolerance := by
  obtain ⟨b, hb, hle⟩ := groupBound_le hm hne hc hx
  rw [candidate_of_not_waived hw, hgb]
  exact ((minWith_le_left _ _).trans (minWith_le_of_mem hb)).trans hle

/-- The candidate exceeds no counted member of the car by more than the car's tolerance (R57). -/
theorem candidate_le_car {m x : Nat} (hw : (s.record n).waived = false) (hgc : s.carGroup n = some gc)
    (hm : m ∈ gc.members) (hne : m ≠ n) (hc : (s.record m).counted = true) (hx : (s.record m).target = some x) :
    s.candidate n need ≤ x + gc.tolerance := by
  obtain ⟨b, hb, hle⟩ := groupBound_le hm hne hc hx
  rw [candidate_of_not_waived hw, hgc]
  exact (minWith_le_of_mem hb).trans hle

end

/-! ## The lowerings -/

/-- The value to which the cascade brings a member of the car down: the smaller tolerance for the bogie partner, the car's for the other
bogie (R60). -/
def cascadeBound (gb gc : Group) (t m : Nat) : Nat := if m ∈ gb.members then t + min gb.tolerance gc.tolerance else t + gc.tolerance

theorem le_cascadeBound (gb gc : Group) (t m : Nat) : t ≤ cascadeBound gb gc t m := by
  unfold cascadeBound; split <;> omega

theorem cascadeBound_le_car (gb gc : Group) (t m : Nat) : cascadeBound gb gc t m ≤ t + gc.tolerance := by
  unfold cascadeBound; split <;> omega

theorem cascadeBound_le_bogie {gb gc : Group} {m : Nat} (t : Nat) (hm : m ∈ gb.members) :
    cascadeBound gb gc t m ≤ t + gb.tolerance := by
  rw [cascadeBound, if_pos hm]
  omega

theorem loweringOf_ordinal {s : State} {n t m : Nat} {l : Lowering} (h : s.loweringOf n t m = some l) : l.ordinal = m := by
  unfold State.loweringOf at h
  split at h
  · cases h
  · split at h
    · split at h <;> cases h
      rfl
    · cases h
    · cases h

section
variable {s : State} {n t : Nat} {gb gc : Group}

theorem memberBound_of_mem_car {m : Nat} (hgb : s.bogieGroup n = some gb) (hgc : s.carGroup n = some gc) (hm : m ∈ gc.members) :
    s.memberBound n t m = some (cascadeBound gb gc t m) := by
  by_cases hp : m ∈ gb.members <;>
    simp [State.memberBound, boundOn, hgb, hgc, hm, hp, cascadeBound, minWith, Nat.add_min_add_left]

/-- A member of the car is lowered exactly when it is counted and stands above its bound (R59, R60). -/
theorem loweringOf_eq_some_iff {m : Nat} {l : Lowering} (hgb : s.bogieGroup n = some gb) (hgc : s.carGroup n = some gc)
    (hm : m ∈ gc.members) : s.loweringOf n t m = some l ↔
      m ≠ n ∧ (s.record m).counted = true ∧ l = { ordinal := m, target := cascadeBound gb gc t m }
        ∧ ∀ old ∈ (s.record m).target, cascadeBound gb gc t m < old := by
  unfold State.loweringOf
  rw [memberBound_of_mem_car hgb hgc hm]
  by_cases hne : m = n
  · simp [hne]
  · cases hc : (s.record m).counted with
    | false => simp [hne]
    | true =>
      obtain ⟨old, hold⟩ := exists_target_of_counted hc
      by_cases hlt : cascadeBound gb gc t m < old
      · simp only [hne, hold, hlt, beq_iff_eq, Bool.not_true, Bool.or_false, if_true, if_false, Option.some.injEq, ne_eq,
          not_false_eq_true, true_and, Option.mem_def, forall_eq', and_true]
        exact eq_comm
      · simp [hne, hold, hlt]

theorem lowerings_of_not_waived (hw : (s.record n).waived = false) (hgc : s.carGroup n = some gc) :
    s.lowerings n t = gc.members.filterMap (s.loweringOf n t) := by
  simp [State.lowerings, hw, hgc]

/-- The set of lowerings in closed form (R59, R60). -/
theorem mem_lowerings_iff {l : Lowering} (hw : (s.record n).waived = false) (hgb : s.bogieGroup n = some gb)
    (hgc : s.carGroup n = some gc) : l ∈ s.lowerings n t ↔
      l.ordinal ∈ gc.members ∧ l.ordinal ≠ n ∧ (s.record l.ordinal).counted = true
        ∧ l.target = cascadeBound gb gc t l.ordinal ∧ ∀ old ∈ (s.record l.ordinal).target, l.target < old := by
  rw [lowerings_of_not_waived hw hgc, List.mem_filterMap]
  constructor
  · rintro ⟨m, hm, hl⟩
    obtain ⟨hne, hc, rfl, hlt⟩ := (loweringOf_eq_some_iff hgb hgc hm).mp hl
    exact ⟨hm, hne, hc, rfl, hlt⟩
  · rintro ⟨hm, hne, hc, ht, hlt⟩
    refine ⟨l.ordinal, hm, (loweringOf_eq_some_iff hgb hgc hm).mpr ⟨hne, hc, ?_, ?_⟩⟩
    · rw [← ht]
    · rwa [← ht]

end

/-- The members of a car group ascend (R48). -/
theorem carMembers_ascend (c : Nat) (hc : 1 ≤ c) : [4 * c - 3, 4 * c - 2, 4 * c - 1, 4 * c].Pairwise (· < ·) := by
  simp only [List.pairwise_cons, List.mem_cons, List.not_mem_nil, or_false, List.Pairwise.nil, and_true, forall_eq_or_imp, forall_eq,
    IsEmpty.forall_iff, implies_true]
  omega

/-- Lowerings come in ascending ordinal (R60). -/
theorem lowerings_ascend {s : State} (safe : s.GroupsSafe) (n t : Nat) :
    (s.lowerings n t).Pairwise (fun a b => a.ordinal < b.ordinal) := by
  unfold State.lowerings
  split
  · exact List.Pairwise.nil
  · cases hgc : s.carGroup n with
    | none => exact List.Pairwise.nil
    | some gc =>
      obtain ⟨hmem, -⟩ := carGroup_some hgc
      have hasc : gc.members.Pairwise (· < ·) := by
        rw [members_carGroup safe hmem]
        exact carMembers_ascend _ (carGroup_index_range safe hmem).1
      refine hasc.filterMap _ fun a b hab x hx y hy => ?_
      rw [loweringOf_ordinal hx, loweringOf_ordinal hy]
      exact hab

/-- Where ordinals ascend, the lowering found for an ordinal is the one that bears it. -/
theorem find_lowering_iff {ls : List Lowering} (hasc : ls.Pairwise (fun a b => a.ordinal < b.ordinal)) (m : Nat) (l : Lowering) :
    ls.find? (fun l => l.ordinal == m) = some l ↔ l ∈ ls ∧ l.ordinal = m := by
  induction ls with
  | nil => simp
  | cons k rest ih =>
    obtain ⟨hk, hrest⟩ := List.pairwise_cons.mp hasc
    by_cases hkm : k.ordinal = m
    · rw [List.find?_cons_of_pos (by simpa using hkm), Option.some.injEq, List.mem_cons]
      constructor
      · rintro rfl; exact ⟨.inl rfl, hkm⟩
      · rintro ⟨rfl | hl, hlm⟩
        · rfl
        · have := hk l hl; omega
    · rw [List.find?_cons_of_neg (by simpa using hkm), ih hrest, List.mem_cons]
      constructor
      · rintro ⟨hl, hlm⟩; exact ⟨.inr hl, hlm⟩
      · rintro ⟨rfl | hl, hlm⟩
        · exact absurd hlm hkm
        · exact ⟨hl, hlm⟩

end Sys2Proof.Machine

namespace Sys2Proof.Claims
open Sys2Proof.Machine

/-! ## The targets after the cascade -/

section
variable {s : State} {n t : Nat} {gb gc : Group}

/-- After the cascade a counted member of the car stands at its bound or lower (R59, R60). -/
theorem loweredTarget_eq (safe : s.GroupsSafe) (hw : (s.record n).waived = false) (hgb : s.bogieGroup n = some gb)
    (hgc : s.carGroup n = some gc) {m old : Nat} (hne : m ≠ n) (hc : (s.record m).counted = true)
    (hold : (s.record m).target = some old) : loweredTarget s (s.lowerings n t) m =
      some (if m ∈ gc.members then min old (cascadeBound gb gc t m) else old) := by
  unfold loweredTarget
  cases hfind : (s.lowerings n t).find? (fun l => l.ordinal == m) with
  | some l =>
    obtain ⟨hl, rfl⟩ := (find_lowering_iff (lowerings_ascend safe n t) m l).mp hfind
    obtain ⟨hm, -, -, htarget, hlt⟩ := (mem_lowerings_iff hw hgb hgc).mp hl
    have := hlt old hold
    simp only [if_pos hm, Option.some.injEq]
    omega
  | none =>
    simp only [hold, Option.some.injEq]
    split
    case isFalse => rfl
    case isTrue hm =>
      by_contra hbad
      have hlow : { ordinal := m, target := cascadeBound gb gc t m } ∈ s.lowerings n t := by
        refine (mem_lowerings_iff hw hgb hgc).mpr ⟨hm, hne, hc, rfl, fun o ho => ?_⟩
        obtain rfl : old = o := Option.some.inj (hold.symm.trans ho)
        simp only
        omega
      have := List.find?_eq_none.mp hfind _ hlow
      simp at this

/-- What the target of a member after the cascade says of the member: it is the subject, at the candidate, or it is counted and its old
target has been brought down to its bound where it lies in the subject's car. -/
theorem cascadeTarget_cases (safe : s.GroupsSafe) (hw : (s.record n).waived = false) (hgb : s.bogieGroup n = some gb)
    (hgc : s.carGroup n = some gc) {m x : Nat} (hx : x ∈ cascadeTarget s n t (s.lowerings n t) m) :
    (m = n ∧ x = t) ∨ (m ≠ n ∧ (s.record m).counted = true ∧ ∃ old, (s.record m).target = some old
      ∧ x = if m ∈ gc.members then min old (cascadeBound gb gc t m) else old) := by
  unfold cascadeTarget at hx
  split at hx
  case isTrue heq => exact .inl ⟨heq, by simpa using hx.symm⟩
  case isFalse hne =>
    split at hx
    case isFalse => cases hx
    case isTrue hc =>
      obtain ⟨old, hold⟩ := exists_target_of_counted hc
      rw [loweredTarget_eq safe hw hgb hgc hne hc hold] at hx
      exact .inr ⟨hne, hc, old, hold, (Option.some.inj hx).symm⟩

/-- The cascade stops (R59): with the lowerings made no two counted members of a group differ by more than its tolerance. -/
theorem cascade_within_tolerance {need : Nat} (safe : s.GroupsSafe) (hw : (s.record n).waived = false)
    (hgb : s.bogieGroup n = some gb) (hgc : s.carGroup n = some gc) (ht : t = s.candidate n need) {g : Group}
    (hg : g ∈ s.bogieGroups ∨ g ∈ s.carGroups) {a b x y : Nat} (ha : a ∈ g.members) (hb : b ∈ g.members)
    (hx : x ∈ cascadeTarget s n t (s.lowerings n t) a) (hy : y ∈ cascadeTarget s n t (s.lowerings n t) b) : x ≤ y + g.tolerance := by
  obtain ⟨hgbm, hgbi⟩ := bogieGroup_some hgb
  obtain ⟨hgcm, hgci⟩ := carGroup_some hgc
  have hsafe : s.GroupSafe g := hg.elim (safe.2.2.1 g) (safe.2.2.2 g)
  have hpos : ∀ {m}, m ∈ g.members → 1 ≤ m := one_le_of_mem_members safe hg
  -- a group that meets the subject is one of its two, and so is one that meets its bogie
  have hown : ∀ {m}, m ∈ g.members → m = n ∨ m ∈ gb.members → g = gb ∨ g = gc := by
    intro m hm hmn
    have hbogie : bogieIndexOf m = gb.index := by
      rcases hmn with rfl | hmn
      · exact hgbi.symm
      · exact ((mem_members_bogieGroup safe hgbm m).mp hmn).2
    rcases hg with hg | hg
    · exact .inl (bogieGroup_eq_of_index safe hg hgbm (((mem_members_bogieGroup safe hg m).mp hm).2.symm.trans hbogie))
    · refine .inr (carGroup_eq_of_index safe hg hgcm ?_)
      rw [← ((mem_members_carGroup safe hg m).mp hm).2, hgci]
      exact carOf_eq_of_bogieIndexOf_eq (hbogie.trans hgbi)
  -- a group that meets the subject's car lies in it
  have hcar : b ∈ gc.members → a ∈ gc.members := by
    intro hbc
    rw [mem_members_carGroup safe hgcm] at hbc ⊢
    exact ⟨hpos ha, (carOf_eq_of_mem_members safe hg ha hb).trans hbc.2⟩
  have hbogieCar : ∀ {m}, m ∈ gb.members → m ∈ gc.members := by
    intro m hm
    rw [mem_members_bogieGroup safe hgbm] at hm
    rw [mem_members_carGroup safe hgcm, hgci]
    exact ⟨hm.1, carOf_eq_of_bogieIndexOf_eq (hm.2.trans hgbi)⟩
  have hcarBound := cascadeBound_le_car gb gc t a
  rcases cascadeTarget_cases safe hw hgb hgc hx with ⟨rfl, rfl⟩ | ⟨hna, hca, olda, holda, rfl⟩ <;>
    rcases cascadeTarget_cases safe hw hgb hgc hy with ⟨hbn, rfl⟩ | ⟨hnb, hcb, oldb, holdb, rfl⟩
  · omega
  · -- the subject over a member: the candidate keeps the bound of the group, and so does what it brings the member down to
    have hle : x ≤ oldb + g.tolerance := by
      rcases hown ha (.inl rfl) with rfl | rfl
      · exact ht ▸ candidate_le_bogie hw hgb hb hnb hcb holdb
      · exact ht ▸ candidate_le_car hw hgc hb hnb hcb holdb
    have := le_cascadeBound gb gc x b
    split <;> omega
  · -- a member over the subject
    subst hbn
    rcases hown hb (.inl rfl) with rfl | rfl
    · have := cascadeBound_le_bogie (gc := gc) y ha
      rw [if_pos (hbogieCar ha)]
      omega
    · rw [if_pos ha]
      omega
  · -- two members: either the second stands as it did, or the first lies in the same car and has been brought down as far
    have hspread := counted_spread hsafe ha hb hca hcb holda holdb
    by_cases hbc : b ∈ gc.members
    · rw [if_pos hbc, if_pos (hcar hbc)]
      by_cases hbb : b ∈ gb.members
      · have hbound : cascadeBound gb gc t a ≤ t + g.tolerance := by
          rcases hown hb (.inr hbb) with rfl | rfl
          · exact cascadeBound_le_bogie t ha
          · exact hcarBound
        have := le_cascadeBound gb gc t b
        omega
      · have hbound : cascadeBound gb gc t b = t + gc.tolerance := if_neg hbb
        omega
    · rw [if_neg hbc]
      split <;> omega

end

/-- Settles O17: a lowering is made exactly where a counted member of the car stands above its bound; and that no bound is left is argued
on two members of one group, by whether the subject is one of them and whether the lower one has itself been lowered. -/
theorem cascadeFollowsTheClosedFormAndStops : Obligations.CascadeFollowsTheClosedFormAndStops := by
  intro s n need gb gc safe hw hgb hgc
  refine ⟨fun m x => mem_lowerings_iff hw hgb hgc, lowerings_ascend safe n _, ?stops⟩
  case stops =>
    intro g hg a ha b hb x hx y hy
    exact cascade_within_tolerance safe hw hgb hgc rfl (List.mem_append.mp hg) ha hb hx hy

end Sys2Proof.Claims
end

section
/-! PROOFS. The outcomes of a planning evaluation: what an assessment hands on, a condemnation, a block, an applied candidate (R31, R54 to
R65), and RULE CONDEMN (R74, R77). -/
namespace Sys2Proof.Machine

/-! ## Step 1 -/

theorem assessment_eq {s : State} {n : Nat} {m : Measured} {i : ProfileImage} (hm : (s.record n).measured = some m)
    (hi : s.validProfile (s.record n).profile = some i) :
    s.assessment n = some (assess i.header s.limits.cleanUp (s.exempt n) m.block) := by
  simp only [State.assessment, hm, hi]

theorem evaluateMeasured_eq {s : State} {n : Nat} {a : Assessment} (h : s.assessment n = some a) :
    s.evaluateMeasured n = (s.writeAssessment n a).evaluate n a.handed := by
  simp only [State.evaluateMeasured, h]

/-! ## Step 2 -/

section
variable {s : State} {n : Nat} {h : Handed}

/-- A CONDEMNED subject ends the evaluation (R55). -/
theorem evaluate_of_condemned (hc : (s.record n).stage = .condemned) : s.evaluate n h = s := by
  simp only [State.evaluate, hc, beq_self_eq_true, if_true]

/-- The subject's own need lies below its condemn diameter (R56). -/
theorem evaluate_of_ownWear (hc : (s.record n).stage ≠ .condemned) (hx : h.exempt = false)
    (hneed : h.ownNeed < condemnDiameter s.limits (s.record n).cls) : s.evaluate n h = s.condemn n .ownWear := by
  simp [State.evaluate, hc, hx, hneed]

/-- The evaluation goes on past step 2 (R55, R56). -/
theorem evaluate_of_plan (hc : (s.record n).stage ≠ .condemned)
    (hneed : h.exempt = true ∨ condemnDiameter s.limits (s.record n).cls ≤ h.ownNeed) : s.evaluate n h = s.plan n h := by
  have hno : ¬(h.exempt = false ∧ h.ownNeed < condemnDiameter s.limits (s.record n).cls) := by
    rintro ⟨hx, hlt⟩
    rcases hneed with hx' | hle
    · rw [hx] at hx'; cases hx'
    · omega
  simp [State.evaluate, hc, hno]

theorem plan_of_obstacle {o : Nat × BlockReason}
    (ho : s.chosenObstacle n h (s.candidate n h.ownNeed) (s.lowerings n (s.candidate n h.ownNeed)) = some o) :
    s.plan n h = s.block n (s.candidate n h.ownNeed) o := by
  simp only [State.plan, ho]

theorem plan_of_no_obstacle
    (ho : s.chosenObstacle n h (s.candidate n h.ownNeed) (s.lowerings n (s.candidate n h.ownNeed)) = none) :
    s.plan n h = s.applyEvaluation n h (s.candidate n h.ownNeed) (s.lowerings n (s.candidate n h.ownNeed)) := by
  simp only [State.plan, ho]

end

/-! ## Step 6: the records of an applied evaluation -/

/-- The subject after an applied evaluation, field by field (R64, R65). -/
theorem Record.applied_eq (v : LimitValues) (r : Record) (h : Handed) (t : Nat) : r.applied v h t =
    { r with
      target := some t, blocked := none, verified := r.verified && (r.hold == .free || r.target == some t)
      stage := if finishes v r h t = true then .finished else .planned
      reopenCount := if r.stage = .finished ∧ ¬ finishes v r h t = true then r.reopenCount + 1 else r.reopenCount
      passesDone := if r.stage = .finished ∧ ¬ finishes v r h t = true then 0 else r.passesDone } := by
  by_cases hf : finishes v r h t = true
  · simp [Record.applied, hf]
  · by_cases hs : r.stage = .finished
    · simp [Record.applied, hf, hs, Record.reopened]
    · simp [Record.applied, hf, hs]

/-- A lowered member that does not reopen (R63). -/
theorem Record.lowered_of_stands {v : LimitValues} {r : Record} {t : Nat} (h : wouldReopen v r t = false) : r.lowered v t =
    { r with target := some t, verified := r.verified && r.hold == Hold.free,
             blocked := r.blocked.map (fun b => { b with heldBack := min b.heldBack t }) } := by
  simp only [Record.lowered, h, Bool.false_eq_true, if_false]

/-- A lowered member that reopens (R63, R64). -/
theorem Record.lowered_of_reopens {v : LimitValues} {r : Record} {t : Nat} (h : wouldReopen v r t = true) : r.lowered v t =
    { r with target := some t, verified := r.verified && r.hold == Hold.free,
             blocked := r.blocked.map (fun b => { b with heldBack := min b.heldBack t }),
             stage := .planned, reopenCount := r.reopenCount + 1, passesDone := 0 } := by
  simp only [Record.lowered, h, if_true, Record.reopened]

theorem Record.target_lowered (v : LimitValues) (r : Record) (t : Nat) : (r.lowered v t).target = some t := by
  cases h : wouldReopen v r t with
  | true => rw [Record.lowered_of_reopens h]
  | false => rw [Record.lowered_of_stands h]

/-- Every lowered member of a list at its new target (R63). -/
def State.lowerAll (s : State) (v : LimitValues) (ls : List Lowering) : State :=
  ls.foldl (fun u l => u.modRecord l.ordinal (fun r => r.lowered v l.target)) s

theorem State.applyRecords_eq (s : State) (n : Nat) (h : Handed) (t : Nat) (ls : List Lowering) :
    s.applyRecords n h t ls = (s.lowerAll s.limits ls).modRecord n (fun r => r.applied s.limits h t) := rfl

theorem State.record_modRecord (s : State) (n m : Nat) (f : Record → Record) :
    (s.modRecord n f).record m = if m = n ∧ 1 ≤ n ∧ n ≤ 64 then f (s.record n) else s.record m :=
  State.record_setRecord s n m _

theorem State.record_modRecord_ne (s : State) {n m : Nat} (f : Record → Record) (h : m ≠ n) :
    (s.modRecord n f).record m = s.record m := State.record_setRecord_ne s n m _ h

/-- A record that no lowering names stands (R63). -/
theorem record_lowerAll_of_not_mem {s : State} {v : LimitValues} {ls : List Lowering} {m : Nat} (h : ∀ l ∈ ls, l.ordinal ≠ m) :
    (s.lowerAll v ls).record m = s.record m := by
  induction ls generalizing s with
  | nil => rfl
  | cons l rest ih =>
    obtain ⟨hl, hrest⟩ := List.forall_mem_cons.mp h
    calc ((s.modRecord l.ordinal fun r => r.lowered v l.target).lowerAll v rest).record m
        = (s.modRecord l.ordinal fun r => r.lowered v l.target).record m := ih hrest
      _ = s.record m := State.record_modRecord_ne s _ hl.symm

/-- A record that one lowering names is lowered once (R63). -/
theorem record_lowerAll_of_mem {s : State} {v : LimitValues} {ls : List Lowering} {l : Lowering}
    (hasc : ls.Pairwise (fun a b => a.ordinal < b.ordinal)) (hl : l ∈ ls) (h1 : 1 ≤ l.ordinal) (h64 : l.ordinal ≤ 64) :
    (s.lowerAll v ls).record l.ordinal = (s.record l.ordinal).lowered v l.target := by
  induction ls generalizing s with
  | nil => cases hl
  | cons k rest ih =>
    obtain ⟨hk, hrest⟩ := List.pairwise_cons.mp hasc
    rcases List.mem_cons.mp hl with rfl | hl
    · calc ((s.modRecord l.ordinal fun r => r.lowered v l.target).lowerAll v rest).record l.ordinal
          = (s.modRecord l.ordinal fun r => r.lowered v l.target).record l.ordinal :=
            record_lowerAll_of_not_mem fun a ha => (hk a ha).ne'
        _ = (s.record l.ordinal).lowered v l.target := by rw [State.record_modRecord, if_pos ⟨rfl, h1, h64⟩]
    · calc ((s.modRecord k.ordinal fun r => r.lowered v k.target).lowerAll v rest).record l.ordinal
          = ((s.modRecord k.ordinal fun r => r.lowered v k.target).record l.ordinal).lowered v l.target := ih hrest hl
        _ = (s.record l.ordinal).lowered v l.target := by rw [State.record_modRecord_ne s _ (hk l hl).ne']

/-- The cascade lowers no ordinal but counted members other than the subject (R59). -/
theorem lowering_ne_subject {s : State} {n t : Nat} {l : Lowering} (hl : l ∈ s.lowerings n t) :
    l.ordinal ≠ n ∧ (s.record l.ordinal).counted = true := by
  unfold State.lowerings at hl
  split at hl
  · cases hl
  · obtain ⟨m, -, hlow⟩ := List.mem_filterMap.mp hl
    obtain rfl := loweringOf_ordinal hlow
    unfold State.loweringOf at hlow
    split at hlow
    case isTrue => cases hlow
    case isFalse hno => simpa using hno

/-- A counted record is one of the table (R1, R50). -/
theorem ordinal_of_counted {s : State} {m : Nat} (h : (s.record m).counted = true) : 1 ≤ m ∧ m ≤ 64 := by
  by_contra hout
  rw [State.record_outside s m hout] at h
  exact absurd h (by decide)

/-- The records after an applied evaluation of the planner's own lowerings: the subject applied, a lowered member lowered, every other as
it was (R63, R65). -/
theorem record_applyRecords {s : State} {n t : Nat} (h : Handed) (h1 : 1 ≤ n) (h64 : n ≤ 64)
    (hasc : (s.lowerings n t).Pairwise (fun a b => a.ordinal < b.ordinal)) (m : Nat) :
    (s.applyRecords n h t (s.lowerings n t)).record m =
      if m = n then (s.record n).applied s.limits h t
      else match (s.lowerings n t).find? (fun l => l.ordinal == m) with
        | none => s.record m
        | some l => (s.record m).lowered s.limits l.target := by
  have hsubject : ∀ l ∈ s.lowerings n t, l.ordinal ≠ n := fun l hl => (lowering_ne_subject hl).1
  rw [State.applyRecords_eq, State.record_modRecord]
  by_cases hm : m = n
  · rw [if_pos ⟨hm, h1, h64⟩, if_pos hm, record_lowerAll_of_not_mem hsubject]
  · rw [if_neg (fun hc => hm hc.1), if_neg hm]
    cases hfind : (s.lowerings n t).find? (fun l => l.ordinal == m) with
    | none => exact record_lowerAll_of_not_mem fun l hl => by simpa using List.find?_eq_none.mp hfind l hl
    | some l =>
      obtain ⟨hl, rfl⟩ := (find_lowering_iff hasc m l).mp hfind
      obtain ⟨hl1, hl64⟩ := ordinal_of_counted (lowering_ne_subject hl).2
      exact record_lowerAll_of_mem hasc hl hl1 hl64

/-- The subject's record needs no law of the groups: no lowering names it (R65). -/
theorem record_applyRecords_subject {s : State} {n t : Nat} (h : Handed) (h1 : 1 ≤ n) (h64 : n ≤ 64) :
    (s.applyRecords n h t (s.lowerings n t)).record n = (s.record n).applied s.limits h t := by
  rw [State.applyRecords_eq, State.record_modRecord, if_pos ⟨rfl, h1, h64⟩,
    record_lowerAll_of_not_mem fun l hl => (lowering_ne_subject hl).1]

/-! ## Step 6: the whole application -/

section
variable (s : State) (n t : Nat) (h : Handed) (ls : List Lowering)

/-- The reopen list after an application: what has reopened is appended, and a subject that finished is taken off (R64, R69). -/
def State.appliedList (s : State) (n t : Nat) (h : Handed) (ls : List Lowering) : List Nat :=
  (s.reopenList ++ reopenedBetween s (s.applyRecords n h t ls)).filter
    (fun m => ((s.applyRecords n h t ls).record n).stage != .finished || m != n)

/-- Lowerings write records alone (R63). -/
theorem lowerAll_frame (v : LimitValues) : ∃ t, s.lowerAll v ls = { s with records := t } := by
  induction ls generalizing s with
  | nil => exact ⟨s.records, rfl⟩
  | cons l rest ih => exact ih (s.modRecord l.ordinal fun r => r.lowered v l.target)

theorem applyRecords_frame : s.applyRecords n h t ls = { s with records := (s.applyRecords n h t ls).records } := by
  obtain ⟨t, ht⟩ := lowerAll_frame s ls s.limits
  rw [State.applyRecords_eq, ht]
  rfl

/-- An applied evaluation as one state: records, reopen list and floors, and nothing else (R63 to R65). -/
theorem applyEvaluation_eq : s.applyEvaluation n h t ls =
    { s with
      records := (s.applyRecords n h t ls).records, reopenList := s.appliedList n t h ls
      bogieGroups := s.bogieGroups.map ((s.applyRecords n h t ls).refloorGroup (n :: ls.map (·.ordinal)))
      carGroups := s.carGroups.map ((s.applyRecords n h t ls).refloorGroup (n :: ls.map (·.ordinal))) } := by
  obtain ⟨recs, hframe⟩ : ∃ recs, s.applyRecords n h t ls = { s with records := recs } := ⟨_, applyRecords_frame s n t h ls⟩
  have hlist : (s.applyRecords n h t ls).reopenList = s.reopenList := by rw [hframe]
  unfold State.applyEvaluation State.appliedList
  generalize s.applyRecords n h t ls = u at hframe hlist ⊢
  have hstage : State.record { u with reopenList := u.reopenList ++ reopenedBetween s u } n = u.record n := rfl
  simp only [hstage, ← hlist]
  by_cases hf : (u.record n).stage = .finished
  · have hremove : ∀ l : List Nat, l.filter (fun m => (u.record n).stage != .finished || m != n) = l.filter (· != n) := by
      simp [hf]
    simp only [hremove, if_pos (beq_iff_eq.mpr hf)]
    subst hframe
    rfl
  · have hkeep : ∀ l : List Nat, l.filter (fun m => (u.record n).stage != .finished || m != n) = l :=
      fun l => List.filter_eq_self.mpr fun m _ => by simp [hf]
    simp only [hkeep, if_neg (mt beq_iff_eq.mp hf)]
    subst hframe
    rfl

theorem records_applyEvaluation : (s.applyEvaluation n h t ls).records = (s.applyRecords n h t ls).records := by
  rw [applyEvaluation_eq]

theorem record_applyEvaluation (m : Nat) : (s.applyEvaluation n h t ls).record m = (s.applyRecords n h t ls).record m := by
  simp only [State.record, records_applyEvaluation]

end

/-! ## The checks of a ruling -/

theorem rulable_iff (g : Stage) : g.rulable = true ↔ g = .planned ∨ g = .finished ∨ g = .blocked := by
  cases g <;> simp [Stage.rulable]

theorem not_ordinalInRange_iff (n : Nat) : ordinalInRange n = false ↔ n < 1 ∨ 64 < n := by
  simp only [ordinalInRange, Bool.and_eq_false_iff, decide_eq_false_iff_not]
  omega

/-- The outcomes of a ruling in the order of its checks (R74). -/
theorem ruling_eq (admits : Stage → Bool) (effect : State → State) (n : Nat) (s : State) : ruling admits effect n s =
    if n < 1 ∨ 64 < n then refuse s .badOrdinal
    else if admits (s.record n).stage = false then refuse s .wrongStage
    else if (s.record n).hold ≠ .free then refuse s .heldElsewhere
    else done (effect s) ((effect s).snapshot n) := by
  simp only [ruling, Bool.not_eq_true', not_ordinalInRange_iff, bne_iff_ne]

end Sys2Proof.Machine

namespace Sys2Proof.Claims
open Sys2Proof.Machine

/-! ## The statements' figures are those of the model -/

theorem floorOf_eq_lowest (u : State) (members : List Nat) :
    u.floorOf members = lowest (members.map fun m => if (u.record m).counted then (u.record m).target else none) := by
  simp only [State.floorOf, State.countedTargets, lowest, List.filterMap_map]
  rfl

/-- Floors recomputed from the records of a state are those of any state with the same records (R51). -/
theorem map_refloorGroup_eq_refloored {u v : State} (hrecords : v.records = u.records) (changed : List Nat) (gs : List Group) :
    gs.map (v.refloorGroup changed) = refloored u changed gs := by
  have hrecord : ∀ m, v.record m = u.record m := fun m => by simp only [State.record, hrecords]
  refine List.map_congr_left fun g _ => ?_
  have hany : (g.members.any fun m => changed.contains m) = true ↔ ∃ m ∈ g.members, m ∈ changed := by
    simp only [List.any_eq_true, List.contains_iff_mem]
  simp only [State.refloorGroup, hany, floorOf_eq_lowest, hrecord]

theorem unlist_eq_unlisted (s : State) (n : Nat) : s.unlist n = unlisted s n := rfl

/-- Settles O15: the assessment reads the measurement, the profile and the windows alone. -/
theorem assessmentWritesOwnNeedAndUnfit : Obligations.AssessmentWritesOwnNeedAndUnfit := by
  intro s n m i hm hi
  have ha := assessment_eq hm hi
  refine ⟨_, ha, rfl, rfl, rfl, ?measured, fun d => rfl⟩
  case measured => rw [evaluateMeasured_eq ha]; rfl

/-! ## The outcomes of an evaluation -/

section
variable {s : State} {n : Nat} {h : Handed}

/-- Where an obstacle names the block, the subject alone is written (R62). -/
theorem block_eq_unlisted (t : Nat) (o : Nat × BlockReason) : s.block n t o =
    unlisted ((s.clearHolderGrant n).setRecord n
      { s.record n with stage := .blocked, blocked := some { heldBack := t, reason := o.2, blocker := o.1 }, verified := false }) n := by
  simp only [State.block, State.modRecord_eq, State.record_clearHolderGrant, unlist_eq_unlisted]

/-- The subject after an applied evaluation, by the stage test's three conditions (R65). -/
theorem applied_eq_finished (v : LimitValues) (r : Record) (t : Nat) :
    let finished := r.hold = .free ∧ (h.loss = 0 ∨ h.exempt = true) ∧ ¬ ∃ c ∈ r.current, t + v.finishTol < c
    r.applied v h t = { r with
      target := some t, blocked := none
      verified := r.verified && (r.hold == .free || r.target == some t)
      stage := if finished then .finished else .planned
      reopenCount := if r.stage = .finished ∧ ¬ finished then r.reopenCount + 1 else r.reopenCount
      passesDone := if r.stage = .finished ∧ ¬ finished then 0 else r.passesDone } := by
  simp only [Record.applied_eq, finishes_iff]

end

/-- Settles O19: past step 2 the evaluation blocks or applies; an application is taken apart into its records (the lowerings, then the
subject, whom no lowering names), its list and its floors. -/
theorem evaluationEndsInOneOfItsOutcomes : Obligations.EvaluationEndsInOneOfItsOutcomes := by
  refine ⟨?outcomes, ?lowering⟩
  case outcomes =>
    intro s n h h1 h64
    refine ⟨evaluate_of_condemned, evaluate_of_ownWear, fun hc hneed => ?past⟩
    rw [evaluate_of_plan hc hneed]
    refine ⟨fun o ho => ?block, fun ho => ?applied⟩
    case block => rw [plan_of_obstacle ho, block_eq_unlisted]
    case applied =>
      rw [plan_of_no_obstacle ho]
      have hrecord : ∀ m, _ := record_applyEvaluation s n (s.candidate n h.ownNeed) h (s.lowerings n (s.candidate n h.ownNeed))
      have hsubject := record_applyRecords_subject (s := s) (t := s.candidate n h.ownNeed) h h1 h64
      refine ⟨?frame, ?subject, ?list, fun safe m _ hne => ?others⟩
      case frame =>
        have hrecords := records_applyEvaluation s n (s.candidate n h.ownNeed) h (s.lowerings n (s.candidate n h.ownNeed))
        rw [← map_refloorGroup_eq_refloored hrecords.symm, ← map_refloorGroup_eq_refloored hrecords.symm]
        conv => lhs; rw [applyEvaluation_eq]
        rw [applyEvaluation_eq]
      case subject => rw [hrecord, hsubject, applied_eq_finished]
      case list =>
        simp only [hrecord]
        rw [applyEvaluation_eq]
        rfl
      case others =>
        exact (hrecord m).trans ((record_applyRecords h h1 h64 (lowerings_ascend safe n _) m).trans (if_neg hne))
  case lowering =>
    intro v r t
    refine ⟨Record.target_lowered v r t, fun hfin hbeyond => ?reopens, fun hno => ?stands⟩
    case reopens =>
      have hreopen := (wouldReopen_iff v r t).mpr ⟨hfin, hbeyond⟩
      rw [Record.lowered_of_reopens hreopen]
    case stands =>
      have hstands : wouldReopen v r t = false := by
        rw [Bool.eq_false_iff, Ne, wouldReopen_iff]
        exact fun ⟨hfin, hbeyond⟩ => hno.elim (· hfin) (· hbeyond)
      rw [Record.lowered_of_stands hstands]

/-! ## Rulings -/

/-- A ruling's checks in order and its answer (R74, R202). -/
theorem portCommand_ruling {i : Instr} {admits : Stage → Bool} {effect : State → State} {n : Nat} {s : State} (hrun : s.phase = .running) :
    portCommand i (ruling admits effect n) s =
      if n < 1 ∨ 64 < n then replied s i .badOrdinal []
      else if admits (s.record n).stage = false then replied s i .wrongStage []
      else if (s.record n).hold ≠ .free then replied s i .heldElsewhere []
      else replied (State.flagStarts s (effect s)) i .done ((effect s).snapshot n) := by
  rw [portCommand_running hrun, ruling_eq]
  split_ifs <;> simp only [refuse, done, State.flagStarts_self, replied, Reply.bare]

theorem not_rulable_iff (g : Stage) : g.rulable = false ↔ g ≠ .planned ∧ g ≠ .finished ∧ g ≠ .blocked := by
  rw [Bool.eq_false_iff, Ne, rulable_iff]
  tauto

theorem exec_ruleCondemn (n : Nat) (s : State) : exec (.ruleCondemn n) s = execRuleCondemn n s := by rfl

/-- Settles O23: the checks are those of every ruling; a condemnation is unfolded once into its record, list, floors and flag. -/
theorem ruleCondemnTable : Obligations.RuleCondemnTable := by
  refine ⟨?table, ?effect⟩
  case table =>
    intro s n hrun
    rw [exec_ruleCondemn]
    exact (portCommand_ruling hrun).trans (by simp only [not_rulable_iff])
  case effect =>
    intro s n cause h1 h64
    have hunfold : s.condemn n cause = ((unlisted ((s.clearHolderGrant n).setRecord n
        { s.record n with stage := .condemned, condemnCause := some cause, blocked := none, verified := false }) n).refloor [n]).flag
          .condemned := by
      simp only [State.condemn, State.modRecord_eq, State.record_clearHolderGrant, unlist_eq_unlisted]
    refine ⟨?state, fun k => ?source⟩
    case state =>
      have hrecords : (unlisted ((s.clearHolderGrant n).setRecord n
          { s.record n with stage := .condemned, condemnCause := some cause, blocked := none, verified := false }) n).records
            = (s.condemn n cause).records := by rw [hunfold]; rfl
      rw [← map_refloorGroup_eq_refloored hrecords, ← map_refloorGroup_eq_refloored hrecords, hunfold]
      conv => lhs; rw [State.flag_eq]
      simp [State.refloor, unlisted]
    case source =>
      have hsource : ∀ j : Source, (unlisted ((s.clearHolderGrant n).setRecord n
          { s.record n with stage := .condemned, condemnCause := some cause, blocked := none, verified := false }) n).source j
            = s.source j := fun j => by simp [State.source, unlisted]
      rw [hunfold, State.source_flag]
      simp only [State.source_refloor, hsource]
      split_ifs with hk
      · rw [hk]
      · rfl

end Sys2Proof.Claims
end

section
/-! PROOFS. What a step can do, said once: the effect of a host command, the effect of a request, and the moves of the part. Each effect
carries the checks that let it through, so that the proofs about steps unfold no rule again. -/
namespace Sys2Proof.Machine

/-! ## The effects of a rule -/

/-- What the owner of a host command leaves of a running part, before flags are set and the answer is written. -/
inductive HostEffect (s : State) : State → Prop where
  | unchanged : HostEffect s s
  | acknowledge (mask : Nat) : HostEffect s (s.acknowledgeMask mask)
  | program (k : Source) (enable level : Nat) (hlevel : level ≤ 7) : HostEffect s (s.program k enable level)
  | replan (n : Nat) (h1 : 1 ≤ n) (h64 : n ≤ 64) (hstage : (s.record n).stage.rulable = true) (hfree : (s.record n).hold = .free) :
      HostEffect s (s.evaluateMeasured n)
  | accept (n : Nat) (h1 : 1 ≤ n) (h64 : n ≤ 64) (hstage : (s.record n).stage = .blocked) (hfree : (s.record n).hold = .free) :
      HostEffect s (s.acceptDeviation n)
  | condemn (n : Nat) (h1 : 1 ≤ n) (h64 : n ≤ 64) (hstage : (s.record n).stage.rulable = true) (hfree : (s.record n).hold = .free) :
      HostEffect s (s.condemn n .ruling)
  | openVisit (id : VisitIdentity) (hno : s.visit = .noVisit) (hclosed : s.catalogue = .closed)
      (hlimits : s.statusOf Config.limitsPage = .valid) (hnumber : id.number ≠ 0) (htext : id.trainCode.all textChar = true) :
      HostEffect s { s with visit := .opened id, window1 := none, window2 := none }
  | load (id : VisitIdentity) (cars : List Car) (hopen : s.visit = .opened id) (h1 : 1 ≤ cars.length)
      (h16 : cars.length ≤ Config.maxCars) (hcars : ∀ c ∈ cars, c.profile ≤ 15 ∧ s.classesAdmitted c = true) :
      HostEffect s (s.load id cars)
  | window (w1 w2 : Option Window) : HostEffect s { s with window1 := w1, window2 := w2 }
  | close (hvisit : s.visit ≠ .noVisit) (hfree : s.recordHeld = false) : HostEffect s s.close
  | halt (st : StationId) (hpass : (s.station st).passInFlight = true) (hgoing : (s.station st).suspended = false) :
      HostEffect s (s.haltPass st)
  | resume (st : StationId) (hpass : (s.station st).passInFlight = true) (hhalted : (s.station st).suspended = true) :
      HostEffect s (s.resumePass st)
  | resetLink (l : LinkId) (henabled : (s.link l).state ≠ .disabled) : HostEffect s ((s.modLink l LinkContext.flush).resetOwner l)
  | openCatalogue (hno : s.visit = .noVisit) : HostEffect s { s with catalogue := .opened, staging := .empty }
  | closeCatalogue : HostEffect s { s with catalogue := .closed, staging := .empty }
  | stage (x : Staging) (hopen : s.catalogue = .opened) (hfits : s.staging.fitsPage = true → x.fitsPage = true) :
      HostEffect s { s with staging := x }
  | commit (hopen : s.catalogue = .opened) (hpage : s.staging.page.isSome = true) (hfault : s.staging.fault = none) :
      HostEffect s { s with catalogue := .committing }
  | abort (n : Nat) (hwrite : s.writeInFlight = some n) : HostEffect s (s.abortWrite n)

/-- What the owner of a request on link `l` leaves of the part, before flags are set and the answer is appended. -/
inductive RequestEffect (s : State) : LinkId → State → Prop where
  | unchanged (l : LinkId) : RequestEffect s l s
  | reportRefused : RequestEffect s .gauge s.countRefused
  | reportConflict : RequestEffect s .gauge (s.countRefused.flag .serialConflict)
  | report (n : Nat) (m : Measurement) (serial : Option Nat) (haligned : s.alignment.gauge = some n)
      (hstage : (s.record n).stage ≠ .condemned) (hrange : m.inRange = true) (hserial : serial ≠ some 0)
      (hmatch : serialMismatch serial (s.record n).serial = none) (hnew : serialDuplicate s.serialMap serial n = none) :
      RequestEffect s .gauge ((s.storeReport n m serial).evaluateMeasured n)
  | aligned (a : Alignment) (hstill : s.moveState = .still) (hfree : s.anyHeld = false) (hrange : s.alignmentInRange a = true)
      (hsingle : s.stationMode = .single → a.stationB = none) :
      RequestEffect s .mover { s with alignment := a, gaugeCounts := { accepted := 0, refused := 0 } }
  | claim (st : StationId) (n : Nat) (hstill : s.moveState = .still) (haligned : s.alignedAt st = some n)
      (hfree : (s.station st).held = none) (hstage : (s.record n).stage = .planned) :
      RequestEffect s (stationLink st) (s.claim st n)
  | grant (st : StationId) (n depth : Nat) (hheld : (s.station st).held = some n) (hstage : (s.record n).stage = .planned)
      (hsure : (s.record n).doubtful = false) (hidle : (s.station st).passInFlight = false)
      (hpasses : (s.record n).passesDone ≠ s.limits.maxPasses) (h1 : 1 ≤ depth) (hmax : depth ≤ s.limits.maxPassDepth) :
      RequestEffect s (stationLink st) (s.modStation st (fun c => { c with grant := some depth }))
  | startPass (st : StationId) (n depth : Nat) (hheld : (s.station st).held = some n) (hgrant : (s.station st).grant = some depth) :
      RequestEffect s (stationLink st) (s.startPass st n)
  | passDone (st : StationId) (n left right : Nat) (hheld : (s.station st).held = some n) (hpass : (s.station st).passInFlight = true)
      (hleft : diameterInRange left = true) (hright : diameterInRange right = true) :
      RequestEffect s (stationLink st) ((s.endPass st n left right).diameterTests n (min left right))
  | verify (st : StationId) (n : Nat) (m : Measurement) (hheld : (s.station st).held = some n)
      (hidle : (s.station st).passInFlight = false) (hrange : m.inRange = true) :
      RequestEffect s (stationLink st) ((s.storeVerify st n m).verifyRecord n m)
  | release (st : StationId) (n : Nat) (hheld : (s.station st).held = some n) (hidle : (s.station st).passInFlight = false)
      (hclosed : (s.station st).cursor = none) :
      RequestEffect s (stationLink st) (s.releaseRecord st n).holdFreed
  | cursor (st : StationId) (new : Option Cursor)
      (hvalid : ∀ k ∈ new, (s.validProfile k.profile).isSome = true
        ∧ ((∃ n, (s.station st).held = some n ∧ k.profile = (s.record n).profile)
          ∨ ∃ old, (s.station st).cursor = some old ∧ k.profile = old.profile)) :
      RequestEffect s (stationLink st) (s.modStation st (fun c => { c with cursor := new }))

/-- What one command does to the part, its queue apart. -/
inductive Move (s : State) : State → Prop where
  | idle : Move s s
  | window (a : Option DepotAnswer) (bytes : List Byte) (hout : s.phase ≠ .resetAsserted) :
      Move s { s with lastAnswer := a, dataOut := bytes }
  | reset : Move s { State.reset with pages := s.pagesAfterReset, moveRequest := s.moveRequest, pending := s.pending }
  | resetEnd (strap : StationMode) (hreset : s.phase = .resetAsserted) :
      Move s { s with phase := .starting, stationMode := strap, stationA := { s.stationA with enabled := true },
                      stationB := { s.stationB with enabled := stationBEnabled strap },
                      linkB := { s.linkB with state := linkBState strap } }
  | startUp (hstarting : s.phase = .starting) : Move s s.endStartUp
  | level (high : Bool) (hquiet : s.phase = .running → s.moveRequest = false ∧ s.moveState ≠ .still) :
      Move s { s with moveRequest := high }
  | rise (hrun : s.phase = .running) (hlow : s.moveRequest = false) (hstill : s.moveState = .still) :
      Move s (State.flagStarts s (State.takeRise { s with moveRequest := true }))
  | fall (hrun : s.phase = .running) : Move s { s with moveRequest := false, moveState := .still }
  | pulse (st : StationId) : Move s (s.countDown st)
  | tick : Move s ((s.countDown .a).countDown .b)
  | written (n : Nat) (readBack : PageContents) (hwrite : s.writeInFlight = some n) : Move s (s.completeWrite n readBack)
  | arrival (l : LinkId) (f : CellFrame) (hout : s.phase ≠ .resetAsserted) : Move s (s.dispose l f (s.disposition l f))
  | discard (l : LinkId) (hout : s.phase ≠ .resetAsserted) : Move s (s.discardMalformed l)
  | sending (l : LinkId) : Move s (s.modLink l LinkContext.startTransmission)
  | sent (l : LinkId) : Move s (s.modLink l LinkContext.endTransmission)
  | host (i : Instr) (r : Reply) (u : State) (hrun : s.phase = .running) (heffect : HostEffect s u) :
      Move s ((State.flagStarts s u).answerCommand i r)
  | request (l : LinkId) (k : RequestKind) (f : InboxFrame) (r : Reply) (u : State) (htake : s.nextRequest l k = some f)
      (heffect : RequestEffect s l u) : Move s ((State.flagStarts s u).answerInbox l f r)

/-! ## Host commands -/

section
variable (s : State)

theorem hostEffect_ruling {admits : Stage → Bool} {effect : State → State} {n : Nat}
    (h : 1 ≤ n → n ≤ 64 → admits (s.record n).stage = true → (s.record n).hold = .free → HostEffect s (effect s)) :
    HostEffect s (ruling admits effect n s).1 := by
  rw [ruling_eq]
  split_ifs with hrange hstage hheld
  · exact .unchanged
  · exact .unchanged
  · exact .unchanged
  · exact h (by omega) (by omega) (by simpa using hstage) (by simpa using hheld)

theorem hostEffect_takeAckEvents (mask : Nat) : HostEffect s (takeAckEvents mask s).1 := by
  unfold takeAckEvents
  split_ifs
  · exact .unchanged
  · exact .acknowledge mask

theorem hostEffect_takeSetEvent (number enable level : Nat) : HostEffect s (takeSetEvent number enable level s).1 := by
  unfold takeSetEvent
  split
  · exact .unchanged
  · split_ifs with hbad
    · exact .unchanged
    · simp only [Bool.or_eq_true, decide_eq_true_eq] at hbad
      exact .program _ enable level (by omega)

theorem hostEffect_takeOpenVisit (number : Nat) (code : List Byte) : HostEffect s (takeOpenVisit number code s).1 := by
  unfold takeOpenVisit
  split_ifs with hno hclosed hlimits htext
  · exact .unchanged
  · exact .unchanged
  · exact .unchanged
  · exact .unchanged
  · simp only [Bool.or_eq_true, beq_iff_eq, Bool.not_eq_true', not_or, Bool.not_eq_false] at htext
    exact .openVisit ⟨number, code⟩ (by simpa [State.noVisit] using hno) (by simpa using hclosed) (by simpa using hlimits)
      htext.1 htext.2

/-- No car fails a check exactly when every car passes it (R85). -/
theorem lowestFailing_eq_none_iff (ok : Car → Bool) (cars : List Car) (k : Nat) :
    lowestFailing ok cars k = none ↔ ∀ c ∈ cars, ok c = true := by
  induction cars generalizing k with
  | nil => simp [lowestFailing]
  | cons c rest ih =>
    cases hc : ok c with
    | true => simp [lowestFailing, hc, ih]
    | false => simp [lowestFailing, hc]

theorem profile_carOfEntry {e : CarEntry} {c : Car} (h : carOfEntry e = some c) : c.profile ≤ 15 := by
  unfold carOfEntry at h
  split at h
  · split at h
    · cases h; assumption
    · cases h
  · cases h
  · cases h

/-- As many cars as entries, each with a profile number in range (R85). -/
theorem carsOfEntries_some {es : List CarEntry} {cars : List Car} (h : carsOfEntries es = some cars) :
    cars.length = es.length ∧ ∀ c ∈ cars, c.profile ≤ 15 := by
  induction es generalizing cars with
  | nil => cases h; simp
  | cons e rest ih =>
    simp only [carsOfEntries] at h
    split at h
    · rename_i c cs hc hcs
      cases h
      obtain ⟨hlen, hprofiles⟩ := ih hcs
      exact ⟨by simp [hlen], List.forall_mem_cons.mpr ⟨profile_carOfEntry hc, hprofiles⟩⟩
    · cases h
    · cases h

theorem hostEffect_takeLoadConsist (entries : List CarEntry) : HostEffect s (takeLoadConsist entries s).1 := by
  unfold takeLoadConsist
  split
  · exact .unchanged
  · exact .unchanged
  · rename_i id hvisit
    split_ifs with hcount
    · exact .unchanged
    · split
      · exact .unchanged
      · rename_i cars hcars
        split
        · exact .unchanged
        · split
          · exact .unchanged
          · rename_i hadmitted
            simp only [Bool.or_eq_true, decide_eq_true_eq, not_or, not_lt] at hcount
            obtain ⟨hlen, hprofiles⟩ := carsOfEntries_some hcars
            rw [lowestFailing_eq_none_iff] at hadmitted
            exact .load id cars hvisit (by omega) (by omega) fun c hc => ⟨hprofiles c hc, hadmitted c hc⟩

theorem hostEffect_takeSetWindow (w base limit : Nat) : HostEffect s (takeSetWindow w base limit s).1 := by
  unfold takeSetWindow
  split_ifs
  · exact .unchanged
  · exact .unchanged
  · exact .window _ s.window2
  · exact .window s.window1 _

theorem hostEffect_takeCloseVisit (kind : Nat) : HostEffect s (takeCloseVisit kind s).1 := by
  unfold takeCloseVisit
  split
  · exact .unchanged
  · rename_i id hid
    split
    · exact .unchanged
    · split_ifs with hheld
      · exact .unchanged
      · exact .unchanged
      · refine .close (fun hno => ?_) (by simpa using hheld)
        rw [hno] at hid
        cases hid

theorem hostEffect_takeHaltPass (code : Nat) : HostEffect s (takeHaltPass code s).1 := by
  unfold takeHaltPass
  split
  · exact .unchanged
  · split_ifs with _ hpass
    · exact .unchanged
    · exact .unchanged
    · simp only [Bool.or_eq_true, Bool.not_eq_true', not_or, Bool.not_eq_false, Bool.not_eq_true] at hpass
      exact .halt _ hpass.1 hpass.2

theorem hostEffect_takeResumePass (code : Nat) : HostEffect s (takeResumePass code s).1 := by
  unfold takeResumePass
  split
  · exact .unchanged
  · split_ifs with _ hpass
    · exact .unchanged
    · exact .unchanged
    · simp only [Bool.not_eq_true', Bool.not_eq_false, Bool.and_eq_true] at hpass
      exact .resume _ hpass.1 hpass.2

theorem hostEffect_takeResetLink (n : Nat) : HostEffect s (takeResetLink n s).1 := by
  unfold takeResetLink
  split
  · exact .unchanged
  · split_ifs with hdisabled
    · exact .unchanged
    · exact .resetLink _ (by simpa using hdisabled)

theorem hostEffect_takeOpenCatalogue : HostEffect s (takeOpenCatalogue s).1 := by
  unfold takeOpenCatalogue
  split_ifs with hno
  · exact .unchanged
  · exact .unchanged
  · exact .openCatalogue (by simpa [State.noVisit] using hno)

theorem hostEffect_takeCloseCatalogue : HostEffect s (takeCloseCatalogue s).1 := by
  unfold takeCloseCatalogue
  split_ifs
  · exact .unchanged
  · exact .closeCatalogue

/-- A staging command is refused unless the catalogue is OPEN (R189 to R191). -/
theorem hostEffect_whenOpen {t : Taken} (h : s.catalogue = .opened → HostEffect s t.1) : HostEffect s (whenOpen s t).1 := by
  unfold whenOpen
  split
  · exact .unchanged
  · exact .unchanged
  · rename_i hopen; exact h hopen

theorem hostEffect_takeWriteProfileHead (head : ProfileHeader) : HostEffect s (takeWriteProfileHead head s).1 := by
  refine hostEffect_whenOpen s fun hopen => ?_
  split_ifs with hnumber
  · exact .unchanged
  · refine .stage _ hopen fun _ => ?_
    simp only [Staging.fitsPage, blankImage, beq_self_eq_true, Bool.and_true, decide_eq_true_eq]
    omega

theorem hostEffect_takeWriteLimits (v : LimitValues) : HostEffect s (takeWriteLimits v s).1 :=
  hostEffect_whenOpen s fun hopen => .stage _ hopen fun _ => rfl

theorem hostEffect_takeEraseProfile (n : Nat) : HostEffect s (takeEraseProfile n s).1 := by
  refine hostEffect_whenOpen s fun hopen => ?_
  split_ifs with hnumber
  · exact .unchanged
  · refine .stage _ hopen fun _ => ?_
    simp only [Staging.fitsPage, decide_eq_true_eq]
    omega

theorem hostEffect_takeWritePoints (start : Nat) (points : List Point) : HostEffect s (takeWritePoints start points s).1 := by
  refine hostEffect_whenOpen s fun hopen => ?_
  split
  · rename_i page image hstaged
    split_ifs
    · exact .unchanged
    · exact .stage _ hopen fun hfits => by rw [hstaged] at hfits; exact hfits
  · exact .unchanged
  · exact .unchanged
  · exact .unchanged

theorem hostEffect_takeCommit : HostEffect s (takeCommit s).1 := by
  refine hostEffect_whenOpen s fun hopen => ?_
  split
  · exact .unchanged
  · rename_i n hpage
    split
    · exact .unchanged
    · rename_i hfault
      exact .commit hopen (by rw [hpage]; rfl) hfault

theorem hostEffect_takeStoreReset : HostEffect s (takeStoreReset s).1 := by
  unfold takeStoreReset
  split
  · exact .unchanged
  · rename_i n hwrite; exact .abort n hwrite

/-- A read leaves the state as it is. -/
theorem hostEffect_of_unchanged {t : Taken} (h : t.1 = s) : HostEffect s t.1 := h ▸ .unchanged

end

/-- A host command moves the part by its owner's effect, or by its answer alone while STARTING, or not at all (R200, R201, R202). -/
theorem move_portCommand {i : Instr} {owner : State → Taken} {s t : State} (howner : HostEffect s (owner s).1)
    (h : portCommand i owner s = .next t) : Move s t := by
  unfold portCommand at h
  split at h
  · cases h; exact .idle
  · rename_i hstarting
    cases h
    exact .window _ _ (by rw [hstarting]; decide)
  · rename_i hrun
    cases h
    exact .host i _ _ hrun howner

theorem move_execStatus {s t : State} (h : execStatus s = .next t) : Move s t := by
  unfold execStatus at h
  split at h
  · cases h; exact .idle
  all_goals
    rename_i hphase
    cases h
    exact .window _ _ (by rw [hphase]; decide)

theorem unchanged_takeLookupOrdinal (n : Nat) (s : State) : (takeLookupOrdinal n s).1 = s := by
  unfold takeLookupOrdinal; split_ifs <;> rfl

theorem unchanged_takeLookupSerial (n : Nat) (s : State) : (takeLookupSerial n s).1 = s := by
  unfold takeLookupSerial
  split_ifs
  · rfl
  · split <;> rfl

theorem unchanged_takeListStage (n : Nat) (s : State) : (takeListStage n s).1 = s := by
  unfold takeListStage; split <;> rfl

theorem unchanged_takeReadGroup (k n : Nat) (s : State) : (takeReadGroup k n s).1 = s := by
  unfold takeReadGroup
  split
  · rfl
  · split_ifs
    · rfl
    · split <;> rfl

theorem unchanged_takeReadStation (n : Nat) (s : State) : (takeReadStation n s).1 = s := by
  unfold takeReadStation; split <;> rfl

theorem unchanged_takeReadPage (n : Nat) (s : State) : (takeReadPage n s).1 = s := by
  unfold takeReadPage; split_ifs <;> rfl

/-- Every host command, in its own window or in one with its frame, is a move of the part (R202). -/
theorem move_takeHostCommand {i : Instr} {s t : State} (h : takeHostCommand i s = .next t) : Move s t := by
  cases i
  case status => exact move_execStatus h
  case readVisit => exact move_portCommand (hostEffect_of_unchanged s rfl) h
  case lookupOrdinal n => exact move_portCommand (hostEffect_of_unchanged s (unchanged_takeLookupOrdinal n s)) h
  case lookupSerial n => exact move_portCommand (hostEffect_of_unchanged s (unchanged_takeLookupSerial n s)) h
  case listStage n => exact move_portCommand (hostEffect_of_unchanged s (unchanged_takeListStage n s)) h
  case readGroup k n => exact move_portCommand (hostEffect_of_unchanged s (unchanged_takeReadGroup k n s)) h
  case readReopenList => exact move_portCommand (hostEffect_of_unchanged s rfl) h
  case readStation n => exact move_portCommand (hostEffect_of_unchanged s (unchanged_takeReadStation n s)) h
  case readAlignment => exact move_portCommand (hostEffect_of_unchanged s rfl) h
  case readPage n => exact move_portCommand (hostEffect_of_unchanged s (unchanged_takeReadPage n s)) h
  case readAttention => exact move_portCommand (hostEffect_of_unchanged s rfl) h
  case replan n => exact move_portCommand (hostEffect_ruling s (.replan n)) h
  case ruleAcceptDeviation n =>
    exact move_portCommand (hostEffect_ruling s fun h1 h64 hb hf => .accept n h1 h64 (by simpa using hb) hf) h
  case ruleCondemn n => exact move_portCommand (hostEffect_ruling s (.condemn n)) h
  case openVisit number code => exact move_portCommand (hostEffect_takeOpenVisit s number code) h
  case loadConsist cars => exact move_portCommand (hostEffect_takeLoadConsist s cars) h
  case setWindow w base limit => exact move_portCommand (hostEffect_takeSetWindow s w base limit) h
  case closeVisit kind => exact move_portCommand (hostEffect_takeCloseVisit s kind) h
  case haltPass n => exact move_portCommand (hostEffect_takeHaltPass s n) h
  case resumePass n => exact move_portCommand (hostEffect_takeResumePass s n) h
  case resetLink n => exact move_portCommand (hostEffect_takeResetLink s n) h
  case openCatalogue => exact move_portCommand (hostEffect_takeOpenCatalogue s) h
  case writeProfileHead head => exact move_portCommand (hostEffect_takeWriteProfileHead s head) h
  case writePoints start points => exact move_portCommand (hostEffect_takeWritePoints s start points) h
  case writeLimits v => exact move_portCommand (hostEffect_takeWriteLimits s v) h
  case eraseProfile n => exact move_portCommand (hostEffect_takeEraseProfile s n) h
  case commit => exact move_portCommand (hostEffect_takeCommit s) h
  case storeReset => exact move_portCommand (hostEffect_takeStoreReset s) h
  case closeCatalogue => exact move_portCommand (hostEffect_takeCloseCatalogue s) h
  case ackEvents mask => exact move_portCommand (hostEffect_takeAckEvents s mask) h
  case setEvent number enable level => exact move_portCommand (hostEffect_takeSetEvent s number enable level) h
  all_goals cases h; exact .idle

end Sys2Proof.Machine
end

section
/-! PROOFS. Every request and every other command is a move of the part, and a step is a move after the queue has been shortened and, for a
station's request, the cursor closed (R118, R173). -/
namespace Sys2Proof.Machine

/-! ## Requests -/

section
variable (s : State) (p : List Byte)

theorem requestEffect_of_unchanged {l : LinkId} {t : Taken} (h : t.1 = s) : RequestEffect s l t.1 := h ▸ .unchanged l

theorem unchanged_takeHello (l : LinkId) : (takeHello l p s).1 = s := by
  unfold takeHello; split_ifs <;> rfl

theorem requestEffect_takeGaugeReport : RequestEffect s .gauge (takeGaugeReport p s).1 := by
  unfold takeGaugeReport gaugeIntake
  split_ifs with hloaded haligned hstage hrange
  · exact .reportRefused
  · exact .reportRefused
  · exact .reportRefused
  · exact .reportRefused
  · split
    · exact .reportConflict
    · rename_i hmatch
      split
      · exact .reportConflict
      · rename_i hnew
        simp only [Bool.or_eq_true, Bool.not_eq_true', beq_iff_eq, not_or, Bool.not_eq_false] at hrange
        exact .report _ _ _ (by simpa using haligned) (by simpa using hstage) hrange.1 hrange.2 hmatch hnew

theorem requestEffect_takeAligned : RequestEffect s .mover (takeAligned p s).1 := by
  unfold takeAligned
  simp only
  split_ifs with hmoving hloaded hheld hrange
  · exact .unchanged _
  · exact .unchanged _
  · exact .unchanged _
  · exact .unchanged _
  · refine .aligned _ (by simpa [State.moving] using hmoving) (by simpa using hheld) (by simpa using hrange) fun hsingle => ?_
    simp [State.reportedAlignment, hsingle]

variable (st : StationId)

theorem requestEffect_takeClaim : RequestEffect s (stationLink st) (takeClaim st p s).1 := by
  unfold takeClaim
  simp only
  cases hheld : (s.station st).held with
  | some h => split_ifs <;> exact .unchanged _
  | none =>
    split_ifs with hmoving hloaded haligned hstage hexempt
    · exact .unchanged _
    · exact .unchanged _
    · exact .unchanged _
    · exact .unchanged _
    · exact .unchanged _
    · exact .claim st _ (by simpa [State.moving] using hmoving) (by simpa using haligned) hheld (by simpa using hstage)

theorem requestEffect_takeGrantPass : RequestEffect s (stationLink st) (takeGrantPass st p s).1 := by
  unfold takeGrantPass
  simp only
  split
  · exact .unchanged _
  · rename_i n hheld
    split_ifs with hstage hdoubtful hpass hmoving hexempt hpasses hdepth hbelow
    · exact .unchanged _
    · exact .unchanged _
    · exact .unchanged _
    · exact .unchanged _
    · exact .unchanged _
    · exact .unchanged _
    · exact .unchanged _
    · exact .unchanged _
    · simp only [Bool.or_eq_true, decide_eq_true_eq, not_or, not_lt] at hdepth
      exact .grant st n _ hheld (by simpa using hstage) (by simpa using hdoubtful) (by simpa using hpass) (by simpa using hpasses)
        hdepth.1 hdepth.2

theorem requestEffect_takeStartPass : RequestEffect s (stationLink st) (takeStartPass st p s).1 := by
  unfold takeStartPass
  split
  · exact .unchanged _
  · rename_i n hheld
    split
    · exact .unchanged _
    · rename_i depth hgrant
      split_ifs
      · exact .unchanged _
      · exact .startPass st n depth hheld hgrant

theorem requestEffect_takePassDone : RequestEffect s (stationLink st) (takePassDone st p s).1 := by
  unfold takePassDone
  simp only
  split
  · exact .unchanged _
  · rename_i n hheld
    split_ifs with hpass hrange
    · exact .unchanged _
    · exact .unchanged _
    · simp only [Bool.or_eq_true, Bool.not_eq_true', not_or, Bool.not_eq_false] at hrange
      exact .passDone st n _ _ hheld (by simpa using hpass) hrange.1 hrange.2

theorem requestEffect_takeVerify : RequestEffect s (stationLink st) (takeVerify st p s).1 := by
  unfold takeVerify
  simp only
  split
  · exact .unchanged _
  · rename_i n hheld
    split_ifs with hpass hrange
    · exact .unchanged _
    · exact .unchanged _
    · exact .verify st n _ hheld (by simpa using hpass) (by simpa using hrange)

theorem requestEffect_takeRelease (hclosed : (s.station st).cursor = none) : RequestEffect s (stationLink st) (takeRelease st p s).1 := by
  unfold takeRelease
  split
  · exact .unchanged _
  · rename_i n hheld
    split_ifs with hpass
    · exact .unchanged _
    · exact .release st n hheld (by simpa using hpass) hclosed

/-- A cursor is opened on the profile it was asked for (R144, R145). -/
theorem profile_cursorAfter {profile start : Nat} {i : ProfileImage} {k : Cursor} (h : k ∈ cursorAfter profile i start) :
    k.profile = profile := by
  unfold cursorAfter at h
  split at h <;> cases h
  rfl

theorem requestEffect_takeReadContour : RequestEffect s (stationLink st) (takeReadContour st p s).1 := by
  unfold takeReadContour
  simp only
  split
  · exact .unchanged _
  · rename_i n hheld
    split
    · exact .unchanged _
    · rename_i i hvalid
      split_ifs
      · exact .unchanged _
      · refine .cursor st _ fun k hk => ?_
        rw [profile_cursorAfter hk]
        exact ⟨by rw [hvalid]; rfl, .inl ⟨n, hheld, rfl⟩⟩

theorem requestEffect_takeContourNext : RequestEffect s (stationLink st) (takeContourNext st p s).1 := by
  unfold takeContourNext
  split
  · exact .unchanged _
  · rename_i old hcursor
    split
    · exact .cursor st none (fun _ h => by cases h)
    · rename_i i hvalid
      refine .cursor st _ fun k hk => ?_
      rw [profile_cursorAfter hk]
      exact ⟨by rw [hvalid]; rfl, .inr ⟨old, hcursor, rfl⟩⟩

end

/-- A request that its block takes is a move; with nothing to take nothing moves (R173). -/
theorem move_serve {l : LinkId} {k : RequestKind} {owner : List Byte → State → Taken} {s t : State}
    (howner : ∀ p, RequestEffect s l (owner p s).1) (h : serve l k owner s = .next t) : Move s t := by
  cases hreq : s.nextRequest l k with
  | none => rw [serve_none hreq] at h; cases h; exact .idle
  | some f => rw [serve_some hreq] at h; cases h; exact .request l k f _ _ hreq (howner f.payload)

/-! ## The cursor closed at the start of a station's request -/

/-- Flags of conditions that start depend on the state before through its conditions alone (R208). -/
theorem flagStarts_before_congr {b c : State} (h : ∀ k, b.condition k = c.condition k) (s : State) :
    State.flagStarts b s = State.flagStarts c s := by
  simp only [State.flagStarts, State.flagIfStarts, h]

theorem State.closeCursor_eq (s : State) (st : StationId) : s.closeCursor st = s.setStation st { s.station st with cursor := none } := rfl

theorem condition_closeCursor (s : State) (st : StationId) (k : Source) : (s.closeCursor st).condition k = s.condition k := by
  rw [State.closeCursor_eq]
  exact State.condition_congr (by simp) (by simp) (by simp) (by simp) k

/-- A station's request is a move of the part with its cursor closed (R118). -/
theorem move_serveStation {st : StationId} {k : RequestKind} {owner : StationId → List Byte → State → Taken} {s t : State}
    (howner : ∀ p, RequestEffect (s.closeCursor st) (stationLink st) (owner st p (s.closeCursor st)).1)
    (h : serveStation st k owner s = .next t) :
    Move s t ∨ ((s.link (stationLink st)).state = .up ∧ Move (s.closeCursor st) t) := by
  cases hreq : s.nextRequest (stationLink st) k with
  | none => exact .inl (by rw [serveStation, serve_none hreq] at h; cases h; exact .idle)
  | some f =>
    rw [serveStation_some hreq, flagStarts_before_congr fun k => (condition_closeCursor s st k).symm] at h
    cases h
    have hreq' : (s.closeCursor st).nextRequest (stationLink st) k = some f := by
      rw [State.closeCursor_eq, State.nextRequest, State.link_setStation]
      exact hreq
    exact .inr ⟨(nextRequest_some hreq).1, .request _ k f _ _ hreq' (howner f.payload)⟩

/-! ## The other commands -/

section
variable {s t : State}

theorem move_execResetEnd {strap : StationMode} (h : execResetEnd strap s = .next t) : Move s t := by
  unfold execResetEnd at h
  split at h
  · rename_i hreset; cases h; exact .resetEnd strap hreset
  · cases h; exact .idle
  · cases h; exact .idle

theorem move_execStartUpCheckEnd (h : execStartUpCheckEnd s = .next t) : Move s t := by
  unfold execStartUpCheckEnd at h
  split at h
  · cases h; exact .idle
  · rename_i hstarting; cases h; exact .startUp hstarting
  · cases h; exact .idle

theorem move_execMoveRequestRise (h : execMoveRequestRise s = .next t) : Move s t := by
  unfold execMoveRequestRise at h
  simp only at h
  split_ifs at h with hhigh htaken
  · cases h; exact .idle
  · cases h
    simp only [State.takesEdges, Bool.and_eq_true, beq_iff_eq] at htaken
    exact .rise htaken.1 (by simpa using hhigh) htaken.2
  · cases h
    refine .level true fun hrun => ⟨by simpa using hhigh, fun hstill => htaken ?_⟩
    simp [State.takesEdges, hrun, hstill]

theorem move_execMoveRequestFall (h : execMoveRequestFall s = .next t) : Move s t := by
  unfold execMoveRequestFall at h
  simp only at h
  split_ifs at h with hlow htaken
  · cases h; exact .idle
  · cases h; exact .fall (by simpa [State.takesEdges] using htaken)
  · cases h
    exact .level false fun hrun => absurd (by simp [State.takesEdges, hrun]) htaken

theorem move_execRevPulse {st : StationId} (h : execRevPulse st s = .next t) : Move s t := by
  unfold execRevPulse at h
  split at h
  · cases h; exact .pulse st
  · cases h; exact .idle

theorem move_execTimebaseTick (h : execTimebaseTick s = .next t) : Move s t := by
  unfold execTimebaseTick at h
  split at h
  · cases h; exact .idle
  · cases h; exact .tick

/-- The expiry is that of the pulse or tick that counts the watch to 0 (R133). -/
theorem countDown_of_last {st : StationId} (hc : (s.station st).counting = true) (hw : (s.station st).watch = 1) :
    s.countDown st = s.expire st := by
  simp [State.countDown, hc, hw]

theorem move_execPassWatchExpiry {st : StationId} (h : execPassWatchExpiry st s = .next t) : Move s t := by
  unfold execPassWatchExpiry at h
  split_ifs at h with hlast
  · cases h
    simp only [Bool.and_eq_true, beq_iff_eq] at hlast
    rw [← countDown_of_last hlast.1 hlast.2]
    exact .pulse st
  · cases h; exact .idle

theorem move_execStoreCompletion {readBack : PageContents} (h : execStoreCompletion readBack s = .next t) : Move s t := by
  unfold execStoreCompletion at h
  split at h
  · cases h; exact .idle
  · rename_i n hwrite; cases h; exact .written n readBack hwrite

theorem move_execCellFrameArrival {l : LinkId} {f : CellFrame} (h : execCellFrameArrival l f s = .next t) : Move s t := by
  unfold execCellFrameArrival at h
  split at h
  · cases h; exact .idle
  all_goals
    rename_i hphase
    cases h
    exact .arrival l f (by rw [hphase]; decide)

theorem move_execMalformedFrameDiscarded {l : LinkId} {why : DiscardCause} (h : execMalformedFrameDiscarded l why s = .next t) :
    Move s t := by
  unfold execMalformedFrameDiscarded at h
  split at h
  · cases h; exact .idle
  all_goals
    rename_i hphase
    cases h
    exact .discard l (by rw [hphase]; decide)

theorem move_execReadWindow {k : Nat} (h : execReadWindow k s = .next t) : Move s t := by
  unfold execReadWindow at h
  split at h
  · cases h; exact .idle
  all_goals
    rename_i hphase
    cases h
    exact .window _ _ (by rw [hphase]; decide)

theorem move_commandWindow {bytes : List Byte} (hout : s.phase ≠ .resetAsserted) (h : s.commandWindow bytes = .next t) : Move s t := by
  unfold State.commandWindow at h
  split at h
  · cases h; exact .window _ _ hout
  · exact move_takeHostCommand h

theorem move_execMalformedCommandWindow {bytes : List Byte} (h : execMalformedCommandWindow bytes s = .next t) : Move s t := by
  unfold execMalformedCommandWindow at h
  split at h
  · cases h; exact .idle
  · cases h; exact .idle
  · cases h; exact .idle
  all_goals
    rename_i hphase
    split at h
    · exact move_execReadWindow h
    · exact move_commandWindow (by rw [hphase]; decide) h

end

/-- A host command of its own row acts as the one its window carries (R202). -/
theorem exec_eq_takeHostCommand {i : Instr} {s : State} (h : (encodeCommand i).isSome = true) :
    exec i s = takeHostCommand i s := by
  obtain ⟨x, hx⟩ := Option.isSome_iff_exists.mp h
  cases i <;> cases hx <;> rfl

/-- Every command is a move of the part, or a station's request: then the part moves with the station's cursor closed (R118). -/
theorem move_exec {c : Instr} {s t : State} (h : exec c s = .next t) :
    Move s t ∨ ∃ st, (s.link (stationLink st)).state = .up ∧ Move (s.closeCursor st) t := by
  have station : ∀ {st k} {owner : StationId → List Byte → State → Taken},
      (∀ p u, RequestEffect u (stationLink st) (owner st p u).1) → serveStation st k owner s = .next t →
        Move s t ∨ ∃ st, (s.link (stationLink st)).state = .up ∧ Move (s.closeCursor st) t :=
    fun howner hserve => (move_serveStation (fun p => howner p _) hserve).imp_right fun hup => ⟨_, hup⟩
  cases c
  case reset => cases h; exact .inl .reset
  case resetEnd strap => exact .inl (move_execResetEnd h)
  case startUpCheckEnd => exact .inl (move_execStartUpCheckEnd h)
  case moveRequestRise => exact .inl (move_execMoveRequestRise h)
  case moveRequestFall => exact .inl (move_execMoveRequestFall h)
  case revPulse st => exact .inl (move_execRevPulse h)
  case timebaseTick => exact .inl (move_execTimebaseTick h)
  case passWatchExpiry st => exact .inl (move_execPassWatchExpiry h)
  case storeCompletion readBack => exact .inl (move_execStoreCompletion h)
  case cellFrameArrival l f => exact .inl (move_execCellFrameArrival h)
  case transmissionStart l => cases h; exact .inl (.sending l)
  case transmissionEnd l => cases h; exact .inl (.sent l)
  case hello l => exact .inl (move_serve (fun p => requestEffect_of_unchanged s (unchanged_takeHello s p l)) h)
  case gaugeReport => exact .inl (move_serve (requestEffect_takeGaugeReport s) h)
  case aligned => exact .inl (move_serve (requestEffect_takeAligned s) h)
  case claim st => exact station (fun p u => requestEffect_takeClaim u p st) h
  case grantPass st => exact station (fun p u => requestEffect_takeGrantPass u p st) h
  case startPass st => exact station (fun p u => requestEffect_takeStartPass u p st) h
  case passDone st => exact station (fun p u => requestEffect_takePassDone u p st) h
  case verify st => exact station (fun p u => requestEffect_takeVerify u p st) h
  case release st =>
    have hclosed : ((s.closeCursor st).station st).cursor = none := by rw [State.closeCursor_eq, State.station_setStation_same]
    exact (move_serveStation (fun p => requestEffect_takeRelease _ p st hclosed) h).imp_right fun hup => ⟨_, hup⟩
  case readContour st => exact station (fun p u => requestEffect_takeReadContour u p st) h
  case contourNext st => exact .inl (move_serve (fun p => requestEffect_takeContourNext s p st) h)
  case emptyWindow => cases h; exact .inl .idle
  case readWindow k => exact .inl (move_execReadWindow h)
  case malformedCommandWindow bytes => exact .inl (move_execMalformedCommandWindow h)
  case malformedFrameDiscarded l why => exact .inl (move_execMalformedFrameDiscarded (why := why) h)
  all_goals
    refine .inl (move_takeHostCommand ((exec_eq_takeHostCommand ?_).symm.trans h))
    rfl

end Sys2Proof.Machine
end

section
/-! PROOFS. Which fields each law of a safe state reads, and the frame every proof of a step stands in: a safe state, its queue shortened and
at most one cursor closed, is safe, and then moves. -/
namespace Sys2Proof.Machine

/-! ## The fields a law reads -/

section
variable {s t : State}

theorem record_congr (h : t.records = s.records) (n : Nat) : t.record n = s.record n := by
  simp only [State.record, h]

theorem consist_congr (h : t.visit = s.visit) : t.consist = s.consist := by
  simp only [State.consist, h]

theorem recordCount_congr (h : t.visit = s.visit) : t.recordCount = s.recordCount := by
  simp only [State.recordCount, consist_congr h]

theorem isLoaded_congr (h : t.visit = s.visit) : t.isLoaded = s.isLoaded := by
  simp only [State.isLoaded, h]

theorem validProfile_congr (hpages : t.pages = s.pages) (hstatus : t.pageStatus = s.pageStatus) (n : Nat) :
    t.validProfile n = s.validProfile n := by
  have status : t.statusOf n = s.statusOf n := by simp only [State.statusOf, hstatus]
  have page : t.page n = s.page n := by simp only [State.page, hpages]
  rw [State.validProfile, State.validProfile, status, page]

theorem linksSafe_congr (phase : t.phase = s.phase) (mode : t.stationMode = s.stationMode) (link : ∀ l, t.link l = s.link l)
    (safe : s.LinksSafe) : t.LinksSafe := by
  have linkB : t.linkB = s.linkB := link .stationB
  simpa only [State.LinksSafe, phase, mode, link, linkB] using safe

theorem motionSafe_congr (phase : t.phase = s.phase) (mode : t.stationMode = s.stationMode) (move : t.moveState = s.moveState)
    (level : t.moveRequest = s.moveRequest) (alignment : t.alignment = s.alignment) (held : t.anyHeld = s.anyHeld)
    (visit : t.visit = s.visit) (counts : t.gaugeCounts = s.gaugeCounts) (safe : s.MotionSafe) : t.MotionSafe := by
  simpa only [State.MotionSafe, phase, mode, move, level, alignment, held, recordCount_congr visit, counts] using safe

theorem recordsSafe_congr (records : t.records = s.records) (visit : t.visit = s.visit) (limits : t.limits = s.limits)
    (safe : s.RecordsSafe) : t.RecordsSafe := by
  have position : ∀ n, t.loadedPosition n = s.loadedPosition n := fun n => by simp only [State.loadedPosition, consist_congr visit]
  simpa only [State.RecordsSafe, State.RecordSafe, record_congr records, recordCount_congr visit, isLoaded_congr visit,
    consist_congr visit, visit, position, limits] using safe

theorem groupsSafe_congr (records : t.records = s.records) (visit : t.visit = s.visit) (limits : t.limits = s.limits)
    (bogies : t.bogieGroups = s.bogieGroups) (cars : t.carGroups = s.carGroups) (safe : s.GroupsSafe) : t.GroupsSafe :=
  groupsSafe_of_countedTargets limits visit bogies cars (fun m => by rw [record_congr records]) (fun m => by rw [record_congr records])
    safe

theorem reopenSafe_congr (records : t.records = s.records) (list : t.reopenList = s.reopenList) (safe : s.ReopenSafe) :
    t.ReopenSafe := by
  simpa only [State.ReopenSafe, record_congr records, list] using safe

theorem serialsSafe_congr (serial : ∀ n, (t.record n).serial = (s.record n).serial) (map : t.serialMap = s.serialMap)
    (visit : t.visit = s.visit) (safe : s.SerialsSafe) : t.SerialsSafe := by
  simpa only [State.SerialsSafe, serial, map, recordCount_congr visit] using safe

theorem storeSafe_congr (phase : t.phase = s.phase) (catalogue : t.catalogue = s.catalogue) (staging : t.staging = s.staging)
    (visit : t.visit = s.visit) (pages : t.pages = s.pages) (status : t.pageStatus = s.pageStatus) (limits : t.limits = s.limits)
    (safe : s.StoreSafe) : t.StoreSafe := by
  simpa only [State.StoreSafe, State.classesAdmitted, validProfile_congr pages status, State.statusOf, State.page, phase, catalogue,
    staging, visit, pages, status, limits, consist_congr visit] using safe

theorem attentionSafe_congr (records : t.records = s.records) (list : t.reopenList = s.reopenList) (move : t.moveState = s.moveState)
    (visit : t.visit = s.visit) (sources : ∀ k, t.source k = s.source k) (safe : s.AttentionSafe) : t.AttentionSafe := by
  simpa only [State.AttentionSafe, State.condition_congr records list move visit, sources] using safe

end

/-! ## The laws of one station context and its record -/

/-- What the laws of a station context ask of the record it holds (R20, R24, R116, R123, R144). -/
structure HeldRecord (s : State) (st : StationId) (n : Nat) : Prop where
  ordinal : 1 ≤ n
  loaded : n ≤ s.recordCount
  aligned : s.alignedAt st = some n
  linkUp : (s.link (stationLink st)).state = .up
  holder : (s.record n).holder = some st
  hold : (s.record n).hold = (s.station st).hold
  grant : (s.station st).grant.isSome = true →
    (s.station st).passInFlight = false ∧ (s.record n).stage = .planned ∧ (s.record n).doubtful = false
  passes : (s.station st).grant.isSome = true ∨ (s.station st).passInFlight = true → (s.record n).passesDone < s.limits.maxPasses
  cursor : ∀ k ∈ (s.station st).cursor, k.profile = (s.record n).profile ∧ (s.validProfile k.profile).isSome = true

section
variable {s : State} {st : StationId}

theorem stationSafe_iff : s.StationSafe st ↔
    ((s.station st).suspended = true → (s.station st).passInFlight = true)
      ∧ ((s.station st).held = none → (s.station st).passInFlight = false ∧ (s.station st).grant = none ∧ (s.station st).cursor = none)
      ∧ (∀ n, (s.station st).held = some n → HeldRecord s st n)
      ∧ ∀ d, (s.station st).grant = some d → 1 ≤ d ∧ d ≤ s.limits.maxPassDepth := by
  unfold State.StationSafe
  refine and_congr_right fun _ => and_congr_right fun _ => and_congr_left fun _ => forall_congr' fun n => ?_
  refine imp_congr Iff.rfl ⟨?_, ?_⟩
  · rintro ⟨h1, h2, h3, h4, h5, h6, h7, h8, h9⟩
    exact ⟨h1, h2, h3, h4, h5, h6, h7, h8, h9⟩
  · rintro ⟨h1, h2, h3, h4, h5, h6, h7, h8, h9⟩
    exact ⟨h1, h2, h3, h4, h5, h6, h7, h8, h9⟩

theorem stationSafe_of_holdsSafe (safe : s.HoldsSafe) (st : StationId) : s.StationSafe st := by
  cases st
  · exact safe.1
  · exact safe.2.1

theorem heldRecord_of_holdsSafe (safe : s.HoldsSafe) {n : Nat} (h : (s.station st).held = some n) : HeldRecord s st n :=
  (stationSafe_iff.mp (stationSafe_of_holdsSafe safe st)).2.2.1 n h

/-- A station that holds nothing has no pass, no grant and no cursor (R116). -/
theorem idle_of_not_held (safe : s.HoldsSafe) (h : (s.station st).held = none) :
    (s.station st).passInFlight = false ∧ (s.station st).grant = none ∧ (s.station st).cursor = none :=
  (stationSafe_iff.mp (stationSafe_of_holdsSafe safe st)).2.1 h

theorem suspended_in_flight (safe : s.HoldsSafe) (h : (s.station st).suspended = true) : (s.station st).passInFlight = true :=
  (stationSafe_iff.mp (stationSafe_of_holdsSafe safe st)).1 h

theorem holdSafe_of_holdsSafe (safe : s.HoldsSafe) {n : Nat} (h1 : 1 ≤ n) (h64 : n ≤ 64) : s.HoldSafe n :=
  safe.2.2.1 n ((mem_ordinals n).mpr ⟨h1, h64⟩)

end

/-! ## A cursor closed -/

theorem anyHeld_setStation {s : State} {st : StationId} {c : StationContext} (h : c.held = (s.station st).held) :
    (s.setStation st c).anyHeld = s.anyHeld := by
  cases st <;> simp only [State.anyHeld, State.setStation, State.station] at * <;> rw [h]

/-- A write to a station's context that leaves what it holds, its pass and whether it takes part, and keeps the laws of its grant and
cursor, keeps the laws of the holds. -/
theorem holdsSafe_setStation {s : State} {st : StationId} {c : StationContext} (safe : s.HoldsSafe)
    (enabled : c.enabled = (s.station st).enabled) (held : c.held = (s.station st).held)
    (own : (s.setStation st c).StationSafe st) : (s.setStation st c).HoldsSafe := by
  have other : ∀ q, (s.setStation st c).StationSafe q := by
    intro q
    by_cases hq : q = st
    · exact hq ▸ own
    · have hsafe := stationSafe_of_holdsSafe safe q
      simpa only [State.StationSafe, State.station_setStation_ne _ _ _ _ hq, State.record_setStation, State.link_setStation,
        State.alignedAt_setStation, State.recordCount_setStation, State.limits_setStation, State.validProfile_setStation] using hsafe
  refine ⟨other .a, other .b, fun n hn => ?_, fun hrun => ?_⟩
  · have hsafe := safe.2.2.1 n hn
    have hheld : ∀ q, ((s.setStation st c).station q).held = (s.station q).held := by
      intro q
      by_cases hq : q = st
      · rw [hq, State.station_setStation_same, held]
      · rw [State.station_setStation_ne _ _ _ _ hq]
    simpa only [State.HoldSafe, State.record_setStation, hheld] using hsafe
  · have henabled := safe.2.2.2 (by simpa using hrun)
    cases st
    · exact ⟨enabled.trans henabled.1, henabled.2⟩
    · exact ⟨henabled.1, enabled.trans henabled.2⟩

/-- Closing the cursor of a station keeps every law of a running part (R118). -/
theorem safe_closeCursor {s : State} (safe : s.Safe) (hrun : s.phase = .running) (st : StationId) : (s.closeCursor st).Safe := by
  obtain ⟨-, links, holds, motion, records, groups, reopen, serials, store, attention⟩ := safe
  rw [State.closeCursor_eq]
  have phase : (s.setStation st { s.station st with cursor := none }).phase = .running := by simpa using hrun
  refine ⟨⟨fun h => ?_, fun h => ?_⟩, ?links, ?holds, ?motion, ?records, ?groups, ?reopen, ?serials, ?store, ?attention⟩
  · rw [phase] at h; cases h
  · rw [phase] at h; cases h
  case links => exact linksSafe_congr (by simp) (by simp) (by simp) links
  case holds =>
    refine holdsSafe_setStation holds rfl rfl ?_
    obtain ⟨hsuspended, hidle, hheld, hdepth⟩ := stationSafe_iff.mp (stationSafe_of_holdsSafe holds st)
    rw [stationSafe_iff]
    simp only [State.station_setStation_same, State.limits_setStation]
    refine ⟨hsuspended, fun h => ⟨(hidle h).1, (hidle h).2.1, trivial⟩, fun n hn => ?_, hdepth⟩
    have old := hheld n hn
    exact ⟨old.ordinal, by simpa using old.loaded, by simpa using old.aligned, by simpa using old.linkUp, by simpa using old.holder,
      by simpa [StationContext.hold] using old.hold, by simpa using old.grant, by simpa using old.passes, by simp⟩
  case motion =>
    exact motionSafe_congr (by simp) (by simp) (by simp) (by simp) (by simp) (anyHeld_setStation rfl) (by simp) (by simp) motion
  case records => exact recordsSafe_congr (by simp) (by simp) (by simp) records
  case groups => exact groupsSafe_congr (by simp) (by simp) (by simp) (by simp) (by simp) groups
  case reopen => exact reopenSafe_congr (by simp) (by simp) reopen
  case serials => exact serialsSafe_congr (by simp) (by simp) (by simp) serials
  case store => exact storeSafe_congr (by simp) (by simp) (by simp) (by simp) (by simp) (by simp) (by simp) store
  case attention => exact attentionSafe_congr (by simp) (by simp) (by simp) (by simp) (by simp) attention

/-! ## The frame of a step -/

/-- The queue is read by no law. -/
theorem safe_pending {s : State} (safe : s.Safe) (rest : List Instr) : State.Safe { s with pending := rest } := by
  obtain ⟨⟨hreset, hstarting⟩, others⟩ := safe
  refine ⟨⟨fun h => ?_, fun h => ?_⟩, others⟩
  · exact congrArg (fun u : State => { u with pending := rest }) (hreset h)
  · exact congrArg (fun u : State => { u with pending := rest }) (hstarting h)

/-- A link can be UP only in a running part (R117, R166, R196). -/
theorem running_of_linkUp {s : State} (quiet : s.QuietSafe) {l : LinkId} (h : (s.link l).state = .up) : s.phase = .running := by
  cases hp : s.phase with
  | running => rfl
  | resetAsserted =>
    rw [quiet.1 hp] at h
    cases l <;> cases h
  | starting =>
    rw [quiet.2 hp] at h
    cases l
    case stationB => cases hm : s.stationMode <;> simp [State.link, State.underStarting, LinkContext.starting, linkBState, hm] at h
    all_goals cases h

/-- A step of a safe part is a move from a safe state with the same records, visit and phase. -/
theorem step_cases {s t : State} (safe : s.Safe) (h : step s = .next t) :
    ∃ u : State, u.Safe ∧ u.records = s.records ∧ Move u t := by
  cases hq : s.pending with
  | nil =>
    simp only [step, hq] at h
    cases h
    exact ⟨s, safe, rfl, .idle⟩
  | cons c rest =>
    rw [step_cons hq] at h
    have hsafe := safe_pending safe rest
    rcases move_exec h with hmove | ⟨st, hup, hmove⟩
    · exact ⟨_, hsafe, rfl, hmove⟩
    · refine ⟨_, safe_closeCursor hsafe (running_of_linkUp hsafe.1 hup) st, ?_, hmove⟩
      rw [State.closeCursor_eq]
      simp

/-- A law that every move from a safe state leaves in force is kept by every step. -/
theorem step_keeps {P : State → Prop} (hmove : ∀ s t : State, s.Safe → Move s t → P t) {s t : State} (safe : s.Safe)
    (h : step s = .next t) : P t := by
  obtain ⟨u, hsafe, -, hm⟩ := step_cases safe h
  exact hmove u t hsafe hm

end Sys2Proof.Machine
end

section
/-! PROOFS. Frames: what planning, and the work of a running part at large, leave as they are. -/
namespace Sys2Proof.Machine

/-! ## Planning -/

namespace PlanFrame

section
variable {s t : State} (h : PlanFrame s t)
include h

theorem phase : t.phase = s.phase := by rw [h]
theorem stationMode : t.stationMode = s.stationMode := by rw [h]
theorem serialMap : t.serialMap = s.serialMap := by rw [h]
theorem visit : t.visit = s.visit := by rw [h]
theorem window1 : t.window1 = s.window1 := by rw [h]
theorem window2 : t.window2 = s.window2 := by rw [h]
theorem gaugeCounts : t.gaugeCounts = s.gaugeCounts := by rw [h]
theorem moveState : t.moveState = s.moveState := by rw [h]
theorem moveRequest : t.moveRequest = s.moveRequest := by rw [h]
theorem alignment : t.alignment = s.alignment := by rw [h]
theorem pages : t.pages = s.pages := by rw [h]
theorem pageStatus : t.pageStatus = s.pageStatus := by rw [h]
theorem catalogue : t.catalogue = s.catalogue := by rw [h]
theorem staging : t.staging = s.staging := by rw [h]
theorem limits : t.limits = s.limits := by rw [h]

theorem link (l : LinkId) : t.link l = s.link l := by
  rw [h]; cases l <;> rfl

/-- Planning clears grants, and touches nothing else of a station's context (R24). -/
theorem station (st : StationId) : t.station st = { s.station st with grant := (t.station st).grant } := by
  rw [h]; cases st <;> rfl

theorem held (st : StationId) : (t.station st).held = (s.station st).held := by rw [h.station]

theorem anyHeld : t.anyHeld = s.anyHeld := by
  have hA := h.held .a
  have hB := h.held .b
  simp only [State.station] at hA hB
  simp only [State.anyHeld, hA, hB]

end

end PlanFrame

/-! ## The work of a running part -/

/-- What no request and few host commands change: the phase and the strap, the visit, the level of MOVE REQUEST, the store. -/
structure WorkFrame (s t : State) : Prop where
  phase : t.phase = s.phase
  stationMode : t.stationMode = s.stationMode
  visit : t.visit = s.visit
  moveRequest : t.moveRequest = s.moveRequest
  pages : t.pages = s.pages
  pageStatus : t.pageStatus = s.pageStatus
  catalogue : t.catalogue = s.catalogue
  staging : t.staging = s.staging
  limits : t.limits = s.limits

namespace WorkFrame

theorem refl (s : State) : WorkFrame s s := ⟨rfl, rfl, rfl, rfl, rfl, rfl, rfl, rfl, rfl⟩

theorem trans {s t u : State} (h : WorkFrame s t) (k : WorkFrame t u) : WorkFrame s u :=
  ⟨k.phase.trans h.phase, k.stationMode.trans h.stationMode, k.visit.trans h.visit, k.moveRequest.trans h.moveRequest,
    k.pages.trans h.pages, k.pageStatus.trans h.pageStatus, k.catalogue.trans h.catalogue, k.staging.trans h.staging,
    k.limits.trans h.limits⟩

theorem of_plan {s t : State} (h : PlanFrame s t) : WorkFrame s t :=
  ⟨h.phase, h.stationMode, h.visit, h.moveRequest, h.pages, h.pageStatus, h.catalogue, h.staging, h.limits⟩

section
variable (s : State)

theorem setStation (st : StationId) (c : StationContext) : WorkFrame s (s.setStation st c) := by
  constructor <;> simp

theorem setLink (l : LinkId) (c : LinkContext) : WorkFrame s (s.setLink l c) := by
  constructor <;> simp

theorem setRecord (n : Nat) (r : Record) : WorkFrame s (s.setRecord n r) := of_plan rfl

theorem setHold (st : StationId) (h : Hold) : WorkFrame s (s.setHold st h) := by
  unfold State.setHold
  split
  · exact refl s
  · exact setRecord s _ _

theorem holdFreed : WorkFrame s s.holdFreed := by
  rcases s.holdFreed_cases with ⟨-, -, -, h⟩ | ⟨-, h⟩ <;> rw [h]
  · exact ⟨rfl, rfl, rfl, rfl, rfl, rfl, rfl, rfl, rfl⟩
  · exact refl s

theorem haltPass (st : StationId) : WorkFrame s (s.haltPass st) :=
  ((setStation s st _).trans (setHold _ st _)).trans (setLink _ _ _)

theorem resumePass (st : StationId) : WorkFrame s (s.resumePass st) :=
  ((setStation s st _).trans (setHold _ st _)).trans (setLink _ _ _)

theorem resetStation (st : StationId) : WorkFrame s (s.resetStation st) := by
  unfold State.resetStation
  split
  · exact setStation s st _
  · exact ((setStation s st _).trans (setRecord _ _ _)).trans (holdFreed _)

theorem resetOwner (l : LinkId) : WorkFrame s (s.resetOwner l) := by
  cases l
  · exact refl s
  · exact resetStation s .a
  · exact resetStation s .b
  · exact ⟨rfl, rfl, rfl, rfl, rfl, rfl, rfl, rfl, rfl⟩

theorem acknowledgeMask (mask : Nat) : WorkFrame s (s.acknowledgeMask mask) := by
  unfold State.acknowledgeMask
  generalize allSources = ks
  induction ks generalizing s with
  | nil => exact refl s
  | cons k rest ih =>
    refine trans (t := if maskNames mask k then s.acknowledge k else s) ?_ (ih _)
    split
    · exact ⟨rfl, rfl, rfl, rfl, rfl, rfl, rfl, rfl, rfl⟩
    · exact refl s

theorem acceptDeviation (n : Nat) : WorkFrame s (s.acceptDeviation n) := by
  unfold State.acceptDeviation
  simp only
  split
  · exact ((setRecord s _ _).trans (of_plan (planFrame_unlist _ n))).trans (of_plan (planFrame_refloor _ _))
  · exact (setRecord s _ _).trans (of_plan (planFrame_refloor _ _))

theorem storeSerial (n : Nat) (serial : Option Nat) : WorkFrame s (s.storeSerial n serial) := by
  unfold State.storeSerial
  split
  · exact ⟨rfl, rfl, rfl, rfl, rfl, rfl, rfl, rfl, rfl⟩
  · exact refl s
  · exact refl s

theorem storeReport (n : Nat) (m : Measurement) (serial : Option Nat) : WorkFrame s (s.storeReport n m serial) :=
  (storeSerial s n serial).trans ⟨rfl, rfl, rfl, rfl, rfl, rfl, rfl, rfl, rfl⟩

theorem claim (st : StationId) (n : Nat) : WorkFrame s (s.claim st n) :=
  ((setStation s st _).trans (setRecord _ _ _)).trans (of_plan (planFrame_unlist _ n))

theorem startPass (st : StationId) (n : Nat) : WorkFrame s (s.startPass st n) := (setStation s st _).trans (setRecord _ _ _)

theorem endPass (st : StationId) (n left right : Nat) : WorkFrame s (s.endPass st n left right) :=
  (setStation s st _).trans (setRecord _ _ _)

theorem diameterTests (n d : Nat) : WorkFrame s (s.diameterTests n d) := by
  unfold State.diameterTests
  simp only
  split_ifs
  · exact of_plan ((planFrame_condemn s n _).trans (planFrame_flag _ _))
  · exact of_plan ((planFrame_flag s _).trans (planFrame_evaluateOvercut _ n d))
  · exact refl s

theorem storeVerify (st : StationId) (n : Nat) (m : Measurement) : WorkFrame s (s.storeVerify st n m) :=
  (setStation s st _).trans (setRecord _ _ _)

theorem releaseRecord (st : StationId) (n : Nat) : WorkFrame s (s.releaseRecord st n) := by
  unfold State.releaseRecord
  simp only
  split
  · exact ((setStation s st _).trans (setRecord _ _ _)).trans (of_plan (planFrame_unlist _ n))
  · exact (setStation s st _).trans (setRecord _ _ _)

end

end WorkFrame

/-- VERIFY's evaluation and its mark are planning (R140). -/
theorem planFrame_verifyRecord (s : State) (n : Nat) (m : Measurement) : PlanFrame s (s.verifyRecord n m) := by
  unfold State.verifyRecord
  split
  · exact planFrame_modRecord s n _
  · exact (planFrame_modRecord s n _).trans ((planFrame_evaluate _ n _).trans (planFrame_modRecord _ n _))

theorem planFrame_diameterTests (s : State) (n d : Nat) : PlanFrame s (s.diameterTests n d) := by
  unfold State.diameterTests
  simp only
  split_ifs
  · exact (planFrame_condemn s n _).trans (planFrame_flag _ _)
  · exact (planFrame_flag s _).trans (planFrame_evaluateOvercut _ n d)
  · exact PlanFrame.refl s

theorem planFrame_acceptDeviation (s : State) (n : Nat) : PlanFrame s (s.acceptDeviation n) := by
  unfold State.acceptDeviation
  simp only
  split
  · exact (planFrame_modRecord s n _).trans ((planFrame_unlist _ n).trans (planFrame_refloor _ _))
  · exact (planFrame_modRecord s n _).trans (planFrame_refloor _ _)

/-- No request changes the phase, the visit or the store. -/
theorem workFrame_request {s u : State} {l : LinkId} (h : RequestEffect s l u) : WorkFrame s u := by
  cases h
  case unchanged => exact .refl s
  case reportRefused => exact ⟨rfl, rfl, rfl, rfl, rfl, rfl, rfl, rfl, rfl⟩
  case reportConflict => exact ⟨rfl, rfl, rfl, rfl, rfl, rfl, rfl, rfl, rfl⟩
  case report => exact (WorkFrame.storeReport s _ _ _).trans (.of_plan (planFrame_evaluateMeasured _ _))
  case aligned => exact ⟨rfl, rfl, rfl, rfl, rfl, rfl, rfl, rfl, rfl⟩
  case claim => exact .claim s _ _
  case grant => exact .setStation s _ _
  case startPass => exact .startPass s _ _
  case passDone => exact (WorkFrame.endPass s _ _ _ _).trans (.diameterTests _ _ _)
  case verify => exact (WorkFrame.storeVerify s _ _ _).trans (.of_plan (planFrame_verifyRecord _ _ _))
  case release => exact (WorkFrame.releaseRecord s _ _).trans (.holdFreed _)
  case cursor => exact .setStation s _ _

/-- What a host command does to the visit and the store: nothing, or it is one of the visit's or the store's own commands. -/
theorem workFrame_host {s u : State} (h : HostEffect s u) : WorkFrame s u
    ∨ (∃ id, s.visit = .noVisit ∧ s.catalogue = .closed ∧ s.statusOf Config.limitsPage = .valid ∧ id.number ≠ 0
        ∧ id.trainCode.all textChar = true ∧ u = { s with visit := .opened id, window1 := none, window2 := none })
    ∨ (∃ id cars, s.visit = .opened id ∧ 1 ≤ cars.length ∧ cars.length ≤ Config.maxCars
        ∧ (∀ c ∈ cars, c.profile ≤ 15 ∧ s.classesAdmitted c = true) ∧ u = s.load id cars)
    ∨ (s.visit ≠ .noVisit ∧ s.recordHeld = false ∧ u = s.close)
    ∨ (s.visit = .noVisit ∧ u = { s with catalogue := .opened, staging := .empty })
    ∨ u = { s with catalogue := .closed, staging := .empty }
    ∨ (∃ x, s.catalogue = .opened ∧ (s.staging.fitsPage = true → x.fitsPage = true) ∧ u = { s with staging := x })
    ∨ (s.catalogue = .opened ∧ s.staging.page.isSome = true ∧ s.staging.fault = none ∧ u = { s with catalogue := .committing })
    ∨ ∃ n, s.writeInFlight = some n ∧ u = s.abortWrite n := by
  cases h
  case unchanged => exact .inl (.refl s)
  case acknowledge mask => exact .inl (.acknowledgeMask s mask)
  case program => exact .inl ⟨rfl, rfl, rfl, rfl, rfl, rfl, rfl, rfl, rfl⟩
  case replan => exact .inl (.of_plan (planFrame_evaluateMeasured _ _))
  case accept => exact .inl (.acceptDeviation s _)
  case condemn => exact .inl (.of_plan (planFrame_condemn _ _ _))
  case openVisit id h1 h2 h3 h4 h5 => exact .inr (.inl ⟨id, h1, h2, h3, h4, h5, rfl⟩)
  case load id cars h1 h2 h3 h4 => exact .inr (.inr (.inl ⟨id, cars, h1, h2, h3, h4, rfl⟩))
  case window => exact .inl ⟨rfl, rfl, rfl, rfl, rfl, rfl, rfl, rfl, rfl⟩
  case close h1 h2 => exact .inr (.inr (.inr (.inl ⟨h1, h2, rfl⟩)))
  case halt st _ _ => exact .inl (.haltPass s st)
  case resume st _ _ => exact .inl (.resumePass s st)
  case resetLink l _ => exact .inl ((WorkFrame.setLink s l _).trans (.resetOwner _ l))
  case openCatalogue h1 => exact .inr (.inr (.inr (.inr (.inl ⟨h1, rfl⟩))))
  case closeCatalogue => exact .inr (.inr (.inr (.inr (.inr (.inl rfl)))))
  case stage x h1 h2 => exact .inr (.inr (.inr (.inr (.inr (.inr (.inl ⟨x, h1, h2, rfl⟩))))))
  case commit h1 h2 h3 => exact .inr (.inr (.inr (.inr (.inr (.inr (.inr (.inl ⟨h1, h2, h3, rfl⟩)))))))
  case abort n h1 => exact .inr (.inr (.inr (.inr (.inr (.inr (.inr (.inr ⟨n, h1, rfl⟩)))))))

/-! ## Commands that are no host command and no request -/

theorem State.expire_workFrame (s : State) (st : StationId) : WorkFrame s (s.expire st) := by
  have hrecord : WorkFrame s (s.abandonRecord st) := by
    unfold State.abandonRecord
    split
    · exact .refl s
    · exact .setRecord s _ _
  exact ((hrecord.trans (.setStation _ st _)).trans (.of_plan (planFrame_flag _ _))).trans (.setLink _ _ _)

theorem workFrame_countDown (s : State) (st : StationId) : WorkFrame s (s.countDown st) := by
  rcases s.countDown_cases st with ⟨-, h⟩ | ⟨-, -, h⟩ | ⟨-, -, h⟩ <;> rw [h]
  · exact .refl s
  · exact s.expire_workFrame st
  · exact .setStation s st _

theorem workFrame_recordFault (s : State) (l : LinkId) (cause : FaultCause) : WorkFrame s (s.recordFault l cause) :=
  (WorkFrame.setLink s l _).trans (.of_plan (planFrame_flag _ _))

theorem workFrame_discardMalformed (s : State) (l : LinkId) : WorkFrame s (s.discardMalformed l) := by
  unfold State.discardMalformed
  split
  · exact .refl s
  · exact workFrame_recordFault s l _

theorem workFrame_dispose (s : State) (l : LinkId) (f : CellFrame) (d : Disposition) : WorkFrame s (s.dispose l f d) := by
  cases d
  case malformed => exact workFrame_discardMalformed s l
  case disabled => exact .setLink s l _
  case starting => exact .setLink s l _
  case unknown => exact (workFrame_recordFault s l _).trans (.setLink _ l _)
  case helloTaken =>
    simp only [State.dispose, State.helloAtArrival]
    split
    · exact ((WorkFrame.setLink s l _).trans (.of_plan (planFrame_flag _ _))).trans (.setLink _ l _)
    · exact .setLink s l _
  case linkReset => exact .setLink s l _
  case inboxFull => exact (workFrame_recordFault s l _).trans (.setLink _ l _)
  case admitted => exact .setLink s l _

theorem workFrame_flagStarts (s u : State) : WorkFrame u (State.flagStarts s u) := by
  rw [State.flagStarts_attention]
  exact ⟨rfl, rfl, rfl, rfl, rfl, rfl, rfl, rfl, rfl⟩

theorem workFrame_answerCommand (s : State) (i : Instr) (r : Reply) : WorkFrame s (s.answerCommand i r) :=
  ⟨rfl, rfl, rfl, rfl, rfl, rfl, rfl, rfl, rfl⟩

end Sys2Proof.Machine
end

section
/-! PROOFS. What RESET leaves stays until the start-up check ends (R197). -/
namespace Sys2Proof.Machine

/-! ## The phase after a move -/

theorem phase_host {s u : State} (h : HostEffect s u) : u.phase = s.phase := by
  rcases workFrame_host h with hw | ⟨_, _, _, _, _, _, rfl⟩ | ⟨_, _, _, _, _, _, rfl⟩ | ⟨_, _, rfl⟩ | ⟨_, rfl⟩ | rfl | ⟨_, _, _, rfl⟩
    | ⟨_, _, _, rfl⟩ | ⟨_, _, rfl⟩
  · exact hw.phase
  all_goals rfl

theorem quietSafe_of_running {t : State} (h : t.phase = .running) : t.QuietSafe :=
  ⟨fun hr => absurd (h.symm.trans hr) (by decide), fun hs => absurd (h.symm.trans hs) (by decide)⟩

theorem phase_endStartUp (s : State) : s.endStartUp.phase = .running := by
  unfold State.endStartUp State.decideMove
  simp only
  split_ifs <;> rfl

theorem phase_takeRise (s : State) : s.takeRise.phase = s.phase := by
  unfold State.takeRise
  split_ifs <;> rfl

/-! ## A part that does not run -/

section
variable {s : State}

theorem counting_of_quiet (quiet : s.QuietSafe) (hrun : s.phase ≠ .running) (st : StationId) : (s.station st).counting = false := by
  cases hp : s.phase with
  | running => exact absurd hp hrun
  | resetAsserted => rw [quiet.1 hp]; cases st <;> rfl
  | starting => rw [quiet.2 hp]; cases st <;> rfl

/-- The shape of a part under RESET: every link is as after reset (R166). -/
theorem link_of_reset (quiet : s.QuietSafe) (hp : s.phase = .resetAsserted) (l : LinkId) : s.link l = LinkContext.afterReset := by
  rw [quiet.1 hp]; cases l <;> rfl

theorem inbox_of_starting (quiet : s.QuietSafe) (hp : s.phase = .starting) (l : LinkId) : (s.link l).inbox = [] := by
  rw [quiet.2 hp]; cases l <;> rfl

theorem running_of_writeInFlight (quiet : s.QuietSafe) {n : Nat} (h : s.writeInFlight = some n) : s.phase = .running := by
  cases hp : s.phase with
  | running => rfl
  | resetAsserted => rw [quiet.1 hp] at h; cases h
  | starting => rw [quiet.2 hp] at h; cases h

/-- While STARTING the outgoing lists alone may change (R197). -/
theorem underStarting_setLink (hs : s = s.underStarting) (l : LinkId) (out : List OutFrame) (sending : Bool) :
    s.setLink l { s.link l with outgoing := out, transmitting := sending }
      = (s.setLink l { s.link l with outgoing := out, transmitting := sending }).underStarting := by
  have key := congrArg (fun u : State => u.setLink l { u.link l with outgoing := out, transmitting := sending }) hs
  cases l <;> exact key

theorem startTransmission_eq (c : LinkContext) :
    c.startTransmission = { c with outgoing := c.outgoing, transmitting := !c.outgoing.isEmpty || c.transmitting } := by
  unfold LinkContext.startTransmission
  cases hout : c.outgoing.isEmpty <;> simp

/-- With no inbox frame the end of a transmission touches the outgoing list alone (R174). -/
theorem endTransmission_of_no_inbox {c : LinkContext} (h : c.inbox = []) :
    ∃ out sending, c.endTransmission = { c with outgoing := out, transmitting := sending } := by
  unfold LinkContext.endTransmission
  split
  · rename_i rest _ _
    refine ⟨rest, false, ?_⟩
    simp only [h, removeAnswered, ite_self]
  · exact ⟨_, _, rfl⟩
  · exact ⟨_, _, rfl⟩

theorem interfaceAnswer_outgoing (c : LinkContext) (kind : Byte) (tag : Tag) (r : Reply) :
    ∃ out, c.interfaceAnswer kind tag r = { c with outgoing := out, transmitting := c.transmitting } := by
  rcases c.interfaceAnswer_cases kind tag r with ⟨-, h⟩ | ⟨-, h⟩ <;> exact ⟨_, h⟩

/-- A frame that arrives while STARTING is lost or gets an interface answer (R170, R197). -/
theorem underStarting_arrival (hp : s.phase = .starting) (hs : s = s.underStarting) (l : LinkId) (f : CellFrame) :
    s.dispose l f (s.disposition l f) = (s.dispose l f (s.disposition l f)).underStarting := by
  have hanswer : ∀ r : Reply, s.interfaceAnswer l f r = (s.interfaceAnswer l f r).underStarting := by
    intro r
    obtain ⟨out, hout⟩ := interfaceAnswer_outgoing (s.link l) f.kind (f.tag.setWidth 4) r
    rw [State.interfaceAnswer, State.modLink_eq, hout]
    exact underStarting_setLink hs l out _
  unfold State.disposition
  simp only [hp, beq_self_eq_true, if_true]
  split_ifs
  · simpa only [State.dispose, State.discardMalformed, hp, beq_self_eq_true, Bool.or_true, if_true] using hs
  · exact hanswer _
  · exact hanswer _

end

/-- Every move of a safe part keeps what RESET leaves (R197). -/
theorem quietSafe_move {s t : State} (safe : s.Safe) (h : Move s t) : t.QuietSafe := by
  have quiet := safe.1
  cases h
  case idle => exact quiet
  case window a bytes hout =>
    exact ⟨fun hp => absurd hp hout,
      fun hp => congrArg (fun u : State => { u with lastAnswer := a, dataOut := bytes }) (quiet.2 hp)⟩
  case reset => exact ⟨fun _ => rfl, nofun⟩
  case resetEnd strap hreset =>
    refine ⟨nofun, fun _ => ?_⟩
    rw [quiet.1 hreset]
    rfl
  case startUp => exact quietSafe_of_running (phase_endStartUp s)
  case level high _ =>
    exact ⟨fun hp => congrArg (fun u : State => { u with moveRequest := high }) (quiet.1 hp),
      fun hp => congrArg (fun u : State => { u with moveRequest := high }) (quiet.2 hp)⟩
  case rise hrun _ _ => exact quietSafe_of_running ((workFrame_flagStarts s _).phase.trans ((phase_takeRise _).trans hrun))
  case fall hrun => exact quietSafe_of_running hrun
  case pulse st =>
    by_cases hrun : s.phase = .running
    · exact quietSafe_of_running ((workFrame_countDown s st).phase.trans hrun)
    · have hstill : s.countDown st = s := by simp only [State.countDown, counting_of_quiet quiet hrun st, Bool.not_false, if_true]
      rwa [hstill]
  case tick =>
    by_cases hrun : s.phase = .running
    · exact quietSafe_of_running ((workFrame_countDown _ .b).phase.trans ((workFrame_countDown s .a).phase.trans hrun))
    · have hstill : ∀ st, s.countDown st = s := fun st => by
        simp only [State.countDown, counting_of_quiet quiet hrun st, Bool.not_false, if_true]
      rwa [hstill, hstill]
  case written n readBack hwrite =>
    refine quietSafe_of_running ?_
    unfold State.completeWrite
    have hrun := running_of_writeInFlight quiet hwrite
    split <;> exact hrun
  case arrival l f hout =>
    have hphase := (workFrame_dispose s l f (s.disposition l f)).phase
    exact ⟨fun hp => absurd (hphase.symm.trans hp) hout,
      fun hp => underStarting_arrival (hphase.symm.trans hp) (quiet.2 (hphase.symm.trans hp)) l f⟩
  case discard l hout =>
    have hphase := (workFrame_discardMalformed s l).phase
    refine ⟨fun hp => absurd (hphase.symm.trans hp) hout, fun hp => ?_⟩
    have hstarting := hphase.symm.trans hp
    simpa only [State.discardMalformed, hstarting, beq_self_eq_true, Bool.or_true, if_true] using quiet.2 hstarting
  case sending l =>
    rw [State.modLink_eq, startTransmission_eq]
    refine ⟨fun hp => ?_, fun hp => underStarting_setLink (quiet.2 (by simpa using hp)) l _ _⟩
    have hreset : s.phase = .resetAsserted := by simpa using hp
    have hlink := link_of_reset quiet hreset l
    have hsame : { s.link l with outgoing := (s.link l).outgoing, transmitting := !(s.link l).outgoing.isEmpty || (s.link l).transmitting }
        = s.link l := by rw [hlink]; rfl
    rw [hsame, State.setLink_link]
    exact quiet.1 hreset
  case sent l =>
    rw [State.modLink_eq]
    refine ⟨fun hp => ?_, fun hp => ?_⟩
    · have hreset : s.phase = .resetAsserted := by simpa using hp
      have hsame : (s.link l).endTransmission = s.link l := by rw [link_of_reset quiet hreset l]; rfl
      rw [hsame, State.setLink_link]
      exact quiet.1 hreset
    · have hstarting : s.phase = .starting := by simpa using hp
      obtain ⟨out, sending, heq⟩ := endTransmission_of_no_inbox (inbox_of_starting quiet hstarting l)
      rw [heq]
      exact underStarting_setLink (quiet.2 hstarting) l out sending
  case host i r u hrun heffect =>
    refine quietSafe_of_running ?_
    rw [State.phase_answerCommand, (workFrame_flagStarts s u).phase, phase_host heffect, hrun]
  case request l k f r u htake heffect =>
    refine quietSafe_of_running ?_
    rw [State.answerInbox, State.modLink_eq, State.phase_setLink, (workFrame_flagStarts s u).phase, (workFrame_request heffect).phase]
    exact running_of_linkUp quiet (nextRequest_some htake).1

end Sys2Proof.Machine

namespace Sys2Proof.Claims
open Sys2Proof.Machine

/-- Settles O52: by the move the step makes; a part that does not run takes no request, counts no watch and writes no page, so that only
the moves named in the two shapes are left. -/
theorem stepKeepsQuietPhases : Obligations.StepKeepsQuietPhases :=
  fun _ _ safe h => step_keeps (fun _ _ => quietSafe_move) safe h

end Sys2Proof.Claims
end

section
/-! PROOFS. The page as committed and the page as judged, and that every step keeps the laws of the store (R182, R183, R185, R192, R193). -/
namespace Sys2Proof.Machine

/-! ## The page as committed -/

/-- The slots a profile as committed has: those below the point count as staged, the others 0 (R192). -/
theorem getElem?_committedImage (i : ProfileImage) {k : Nat} (hk : k < 48) :
    (committedImage i).slots.toList[k]? =
      some (if k < i.header.pointCount then (i.slots.toList[k]?).getD { lateral := 0, radial := 0 } else { lateral := 0, radial := 0 }) := by
  simp [committedImage, hk]

/-- A commit keeps every point that counts (R192). -/
theorem imagePoints_committedImage (i : ProfileImage) : imagePoints (committedImage i) = imagePoints i := by
  have hheader : (committedImage i).header = i.header := rfl
  apply List.ext_getElem?
  intro k
  simp only [imagePoints, hheader, List.getElem?_take]
  split
  case isFalse => rfl
  case isTrue hcount =>
    by_cases hk : k < 48
    · have hslot : k < i.slots.toList.length := by simpa using hk
      rw [getElem?_committedImage i hk, if_pos hcount, List.getElem?_eq_getElem hslot, Option.getD_some]
    · rw [List.getElem?_eq_none (by simpa using hk), List.getElem?_eq_none (by simpa using hk)]

theorem profileFault_committedImage (n : Nat) (i : ProfileImage) : profileFault n (committedImage i) = profileFault n i := by
  simp only [profileFault, imagePoints_committedImage]
  rfl

/-- A profile that passes carries the number of its page, a page below 16 (R183, R191). -/
theorem number_of_profileFault {n : Nat} {i : ProfileImage} (h : profileFault n i = none) : i.header.number = n ∧ n ≤ 15 := by
  unfold profileFault at h
  split at h
  · cases h
  · rename_i hheader
    have hitem := (firstFailing_none _).mp hheader (1, i.header.number == n && i.header.number ≤ 15) (by simp [headerItems])
    simp only [Bool.and_eq_true, beq_iff_eq, decide_eq_true_eq] at hitem
    exact ⟨hitem.1, hitem.1 ▸ hitem.2⟩

/-- An image that passes COMMIT's tests is VALID as committed (R191, R192). -/
theorem judge_committed_profile {n : Nat} {i : ProfileImage} (h : profileFault n i = none) :
    judge n (writtenProfile (committedImage i)) = .valid := by
  have hn := (number_of_profileFault h).2
  rw [judge_writtenProfile, profileFault_committedImage, if_pos ⟨by omega, h⟩]

/-! ## The end of the start-up check -/

theorem endStartUp_eq (s : State) : s.endStartUp =
    { (if s.moveRequest = true then s.grantMove else { s with moveState := .still }) with
      phase := .running, pageStatus := judgements s.pages, limits := limitsAtStart (s.page Config.limitsPage)
      attention := s.endStartUp.attention } := by
  unfold State.endStartUp State.decideMove
  simp only
  split_ifs <;> rfl

theorem statusOf_endStartUp (s : State) {n : Nat} (hn : n < 17) : s.endStartUp.statusOf n = judge n (s.page n) := by
  rw [endStartUp_eq]
  simp [State.statusOf, judgements, State.page, hn]

theorem page_endStartUp (s : State) (n : Nat) : s.endStartUp.page n = s.page n := by
  rw [endStartUp_eq]
  split <;> rfl

theorem limits_endStartUp (s : State) : s.endStartUp.limits = limitsAtStart (s.page Config.limitsPage) := by
  rw [endStartUp_eq]

/-- A page judged VALID as limits is those limits with the check code formed for them, and they are in range (R183, R184). -/
theorem limits_of_judge_valid {c : PageContents} (h : judge Config.limitsPage c = .valid) :
    ∃ v, c = writtenLimits v ∧ limitsFault v = none := by
  cases c with
  | erased => cases h
  | corrupt => cases h
  | profile i code => simp [judge, Config.limitsPage] at h
  | limits v code =>
    simp only [judge, pageCheckAgrees, ite_eq_left_iff, reduceCtorEq, imp_false, not_not, Bool.and_eq_true, beq_iff_eq, and_true] at h
    exact ⟨v, by rw [h.1]; rfl, h.2⟩

theorem limitsAtStart_of_valid {v : LimitValues} (h : judge Config.limitsPage (writtenLimits v) = .valid) :
    limitsAtStart (writtenLimits v) = v := by
  unfold limitsAtStart
  rw [h]
  rfl

theorem limitsAtStart_of_not_valid {c : PageContents} (h : judge Config.limitsPage c ≠ .valid) : limitsAtStart c = shippedLimits := by
  unfold limitsAtStart
  split
  · rename_i hvalid; exact absurd hvalid h
  · rfl

theorem limitsFault_shipped : limitsFault shippedLimits = none := by decide

theorem limitsFault_limitsAtStart (c : PageContents) : limitsFault (limitsAtStart c) = none := by
  by_cases h : judge Config.limitsPage c = .valid
  · obtain ⟨v, rfl, hv⟩ := limits_of_judge_valid h
    exact (congrArg limitsFault (limitsAtStart_of_valid h)).trans hv
  · rw [limitsAtStart_of_not_valid h]
    exact limitsFault_shipped

theorem judge_eq_empty {n : Nat} {c : PageContents} (h : judge n c = .empty) : c = .erased := by
  cases c with
  | erased => rfl
  | profile i code => simp only [judge] at h; split at h <;> cases h
  | limits v code => simp only [judge] at h; split at h <;> cases h
  | corrupt => cases h

/-! ## The store of a part before work -/

theorem before_work {s : State} (quiet : s.QuietSafe) (h : s.phase ≠ .running) :
    s.visit = .noVisit ∧ s.catalogue = .closed ∧ s.staging = .empty := by
  cases hp : s.phase with
  | running => exact absurd hp h
  | resetAsserted => rw [quiet.1 hp]; exact ⟨rfl, rfl, rfl⟩
  | starting => rw [quiet.2 hp]; exact ⟨rfl, rfl, rfl⟩

/-- No visit is open while a page is being written (R83, R187). -/
theorem noVisit_of_writeInFlight {s : State} (store : s.StoreSafe) {n : Nat} (h : s.writeInFlight = some n) :
    s.visit = .noVisit ∧ s.catalogue = .committing ∧ s.staging.page = some n := by
  unfold State.writeInFlight at h
  split at h
  case isFalse => cases h
  case isTrue hcat =>
    rw [beq_iff_eq] at hcat
    refine ⟨?_, hcat, h⟩
    by_contra hvisit
    have := (store.2.2.2.1 hvisit).1
    rw [hcat] at this
    cases this

theorem consist_of_noVisit {s : State} (h : s.visit = .noVisit) : s.consist = [] := by
  simp only [State.consist, h]

theorem storeSafe_of_workFrame {s t : State} (h : WorkFrame s t) (safe : s.StoreSafe) : t.StoreSafe :=
  storeSafe_congr h.phase h.catalogue h.staging h.visit h.pages h.pageStatus h.limits safe

theorem storeSafe_startUp {s : State} (safe : s.Safe) (hp : s.phase = .starting) : s.endStartUp.StoreSafe := by
  obtain ⟨hvisit, hcat, hstaging⟩ := before_work safe.1 (by rw [hp]; decide)
  have visit : s.endStartUp.visit = .noVisit := by rw [endStartUp_eq]; split <;> exact hvisit
  have catalogue : s.endStartUp.catalogue = .closed := by rw [endStartUp_eq]; split <;> exact hcat
  have staging : s.endStartUp.staging = .empty := by rw [endStartUp_eq]; split <;> exact hstaging
  refine ⟨fun _ => staging, fun h => ?_, by rw [staging]; rfl, fun h => absurd visit h, ?_, ?_, fun _ n hn => ?_, fun _ h16 => ?_⟩
  · rw [catalogue] at h; cases h
  · rw [consist_of_noVisit visit]; exact fun c hc => by cases hc
  · rw [limits_endStartUp]; exact limitsFault_limitsAtStart _
  · rw [statusOf_endStartUp s (List.mem_range.mp hn), page_endStartUp]
    exact ⟨id, judge_eq_empty⟩
  · rw [statusOf_endStartUp s (by decide)] at h16
    obtain ⟨v, hv, -⟩ := limits_of_judge_valid h16
    rw [page_endStartUp, limits_endStartUp]
    rw [hv] at h16 ⊢
    rw [limitsAtStart_of_valid h16]

/-- What a write that agrees leaves is judged as its status says (R193). -/
theorem judge_committed {x : Staging} {n : Nat} (hpage : x.page = some n) (hfault : x.fault = none) :
    (x.goodStatus = .valid → judge n x.committed = .valid) ∧ (x.goodStatus = .empty → x.committed = .erased) := by
  cases x with
  | empty => cases hpage
  | profile k i =>
    obtain rfl := Option.some.inj hpage
    exact ⟨fun _ => judge_committed_profile hfault, nofun⟩
  | limits v =>
    obtain rfl := Option.some.inj hpage
    refine ⟨fun _ => ?_, nofun⟩
    simp only [Staging.committed]
    rw [judge_writtenLimits, if_pos ⟨rfl, hfault⟩]
  | erase k => exact ⟨nofun, fun _ => rfl⟩

theorem limitsFault_limitsAfter {x : Staging} {v : LimitValues} (hv : limitsFault v = none) (hfault : x.fault = none) :
    limitsFault (x.limitsAfter v) = none := by
  cases x with
  | limits w => exact hfault
  | empty | profile | erase => exact hv

/-- Only limits are committed to page 16, and they become the working limits (R185, R189, R193). -/
theorem limits_of_committed_page16 {x : Staging} {v : LimitValues} (hfits : x.fitsPage = true) (hpage : x.page = some Config.limitsPage) :
    x.committed = writtenLimits (x.limitsAfter v) := by
  cases x with
  | empty => cases hpage
  | limits w => rfl
  | profile k i =>
    obtain rfl : k = 16 := Option.some.inj hpage
    simp [Staging.fitsPage] at hfits
  | erase k =>
    obtain rfl : k = 16 := Option.some.inj hpage
    simp [Staging.fitsPage] at hfits

/-- A page written below 16 leaves the working limits (R185, R193). -/
theorem limitsAfter_of_other_page {x : Staging} {n : Nat} (v : LimitValues) (hpage : x.page = some n) (hn : n ≠ Config.limitsPage) :
    x.limitsAfter v = v := by
  cases x with
  | limits w => exact absurd (Option.some.inj hpage).symm hn
  | empty | profile | erase => rfl

/-- A page written keeps the laws of the store, whatever ends the write, where its status says what it then holds, and the working limits
follow page 16 (R193, R194). -/
theorem storeSafe_setPage {s : State} (store : s.StoreSafe) {n : Nat} (hwrite : s.writeInFlight = some n) (hrun : s.phase = .running)
    (c : PageContents) (st : PageStatus) (v : LimitValues) (a : Vector SourceState 12)
    (hv : limitsFault v = none) (hvalid : st = .valid → judge n c = .valid) (hempty : st = .empty → c = .erased)
    (hlimits : n = Config.limitsPage → st = .valid → c = writtenLimits v) (hother : n ≠ Config.limitsPage → v = s.limits) :
    State.StoreSafe { s.setPage n c st with catalogue := .opened, limits := v, attention := a } := by
  obtain ⟨hvisit, hcat, hpage⟩ := noVisit_of_writeInFlight store hwrite
  obtain ⟨-, -, hfits, -, -, -, hpages, hpage16⟩ := store
  have hstatus : ∀ m, State.statusOf { s.setPage n c st with catalogue := .opened, limits := v, attention := a } m
      = if m = n ∧ n < 17 then st else s.statusOf m := fun m => statusOf_setPage s n m c st
  have hcontents : ∀ m, State.page { s.setPage n c st with catalogue := .opened, limits := v, attention := a } m
      = if m = n ∧ n < 17 then c else s.page m := fun m => page_setPage s n m c st
  refine ⟨nofun, nofun, hfits, fun h => absurd hvisit h, ?_, hv, fun _ m hm => ?_, fun _ h16 => ?_⟩
  · rw [consist_of_noVisit (s := { s.setPage n c st with catalogue := .opened, limits := v, attention := a }) hvisit]
    exact fun c hc => by cases hc
  · rw [hstatus, hcontents]
    split
    case isTrue hmn => exact ⟨hmn.1 ▸ hvalid, hempty⟩
    case isFalse => exact hpages hrun m hm
  · rw [hstatus] at h16
    rw [hcontents]
    by_cases hn : n = Config.limitsPage
    · rw [if_pos ⟨hn.symm, by rw [hn]; decide⟩] at h16 ⊢
      exact hlimits hn h16
    · rw [if_neg (fun hc => hn hc.1.symm)] at h16 ⊢
      rw [hother hn]
      exact hpage16 hrun h16

theorem storeSafe_completeWrite {s : State} (safe : s.Safe) {n : Nat} (hwrite : s.writeInFlight = some n) (readBack : PageContents) :
    (s.completeWrite n readBack).StoreSafe := by
  obtain ⟨quiet, -, -, -, -, -, -, -, store, -⟩ := safe
  have hrun := running_of_writeInFlight quiet hwrite
  obtain ⟨-, hcat, hpage⟩ := noVisit_of_writeInFlight store hwrite
  have hfault := (store.2.1 hcat).2
  have hlimits : limitsFault s.limits = none := store.2.2.2.2.2.1
  unfold State.completeWrite
  split
  case isTrue hagrees =>
    rw [beq_iff_eq] at hagrees
    obtain ⟨hvalid, hempty⟩ := judge_committed hpage hfault
    rw [← hagrees] at hvalid hempty
    refine storeSafe_setPage store hwrite hrun readBack _ _ _ (limitsFault_limitsAfter hlimits hfault) hvalid hempty
      (fun hn _ => ?_) (fun hn => limitsAfter_of_other_page _ hpage hn)
    rw [hagrees]
    exact limits_of_committed_page16 store.2.2.1 (hn ▸ hpage)
  case isFalse => exact storeSafe_setPage store hwrite hrun readBack .unusable s.limits _ hlimits nofun nofun nofun (fun _ => rfl)

theorem storeSafe_abortWrite {s : State} (safe : s.Safe) {n : Nat} (hwrite : s.writeInFlight = some n) : (s.abortWrite n).StoreSafe := by
  obtain ⟨quiet, -, -, -, -, -, -, -, store, -⟩ := safe
  exact storeSafe_setPage store hwrite (running_of_writeInFlight quiet hwrite) .corrupt .unusable s.limits _ store.2.2.2.2.2.1 nofun nofun
    nofun (fun _ => rfl)

/-- A host command keeps the laws of the store: the visit opens on a CLOSED catalogue and loads profiles that were tested, and an image is
staged and tested before it is written (R83, R85, R187 to R194). -/
theorem storeSafe_host {s u : State} (safe : s.Safe) (h : HostEffect s u) : u.StoreSafe := by
  have store : s.StoreSafe := by obtain ⟨-, -, -, -, -, -, -, -, store, -⟩ := safe; exact store
  rcases workFrame_host h with hw | ⟨id, hno, hclosed, h16, -, -, rfl⟩ | ⟨id, cars, hopened, -, -, hcars, rfl⟩ | ⟨_, _, rfl⟩ | ⟨hno, rfl⟩ | rfl
    | ⟨x, hopen, hx, rfl⟩ | ⟨hopen, hpage, hfault, rfl⟩ | ⟨n, hwrite, rfl⟩
  · exact storeSafe_of_workFrame hw store
  · obtain ⟨hclosedEmpty, hcommitting, hfits, -, -, hlimits, hpages, hpage16⟩ := store
    exact ⟨hclosedEmpty, hcommitting, hfits, fun _ => ⟨hclosed, h16⟩, nofun, hlimits, hpages, hpage16⟩
  · obtain ⟨hclosedEmpty, hcommitting, hfits, hvisit, -, hlimits, hpages, hpage16⟩ := store
    exact ⟨hclosedEmpty, hcommitting, hfits, fun _ => hvisit (by rw [hopened]; nofun), hcars, hlimits, hpages, hpage16⟩
  · obtain ⟨hclosedEmpty, hcommitting, hfits, -, -, hlimits, hpages, hpage16⟩ := store
    exact ⟨hclosedEmpty, hcommitting, hfits, fun h => absurd rfl h, nofun, hlimits, hpages, hpage16⟩
  · obtain ⟨-, -, -, -, hconsist, hlimits, hpages, hpage16⟩ := store
    exact ⟨nofun, nofun, rfl, fun h => absurd hno h, hconsist, hlimits, hpages, hpage16⟩
  · obtain ⟨-, -, -, hvisit, hconsist, hlimits, hpages, hpage16⟩ := store
    exact ⟨fun _ => rfl, nofun, rfl, fun h => ⟨rfl, (hvisit h).2⟩, hconsist, hlimits, hpages, hpage16⟩
  · obtain ⟨-, -, hfits, hvisit, hconsist, hlimits, hpages, hpage16⟩ := store
    exact ⟨fun h => absurd (hopen.symm.trans h) (by decide), fun h => absurd (hopen.symm.trans h) (by decide), hx hfits, hvisit, hconsist,
      hlimits, hpages, hpage16⟩
  · obtain ⟨-, -, hfits, hvisit, hconsist, hlimits, hpages, hpage16⟩ := store
    exact ⟨nofun, fun _ => ⟨hpage, hfault⟩, hfits, fun h => absurd (hopen.symm.trans (hvisit h).1) (by decide), hconsist, hlimits, hpages,
      hpage16⟩
  · exact storeSafe_abortWrite safe hwrite

/-- Every move of a safe part keeps the laws of the store. -/
theorem storeSafe_move {s t : State} (safe : s.Safe) (h : Move s t) : t.StoreSafe := by
  have store : s.StoreSafe := by obtain ⟨-, -, -, -, -, -, -, -, store, -⟩ := safe; exact store
  cases h
  case idle => exact store
  case window => exact store
  case reset =>
    exact ⟨fun _ => rfl, nofun, rfl, fun h => absurd rfl h, nofun, limitsFault_shipped, nofun, nofun⟩
  case resetEnd strap hreset =>
    obtain ⟨hclosedEmpty, hcommitting, hfits, hvisit, hconsist, hlimits, -, -⟩ := store
    exact ⟨hclosedEmpty, hcommitting, hfits, hvisit, hconsist, hlimits, nofun, nofun⟩
  case startUp hp => exact storeSafe_startUp safe hp
  case level => exact store
  case rise =>
    refine storeSafe_of_workFrame (workFrame_flagStarts s _) ?_
    unfold State.takeRise
    split_ifs <;> exact store
  case fall => exact store
  case pulse st => exact storeSafe_of_workFrame (workFrame_countDown s st) store
  case tick => exact storeSafe_of_workFrame ((workFrame_countDown s .a).trans (workFrame_countDown _ .b)) store
  case written n readBack hwrite => exact storeSafe_completeWrite safe hwrite readBack
  case arrival l f _ => exact storeSafe_of_workFrame (workFrame_dispose s l f _) store
  case discard l _ => exact storeSafe_of_workFrame (workFrame_discardMalformed s l) store
  case sending l => exact storeSafe_of_workFrame (.setLink s l _) store
  case sent l => exact storeSafe_of_workFrame (.setLink s l _) store
  case host i r u _ heffect =>
    exact storeSafe_of_workFrame ((workFrame_flagStarts s u).trans (workFrame_answerCommand _ i r)) (storeSafe_host safe heffect)
  case request l k f r u _ heffect =>
    exact storeSafe_of_workFrame (((workFrame_request heffect).trans (workFrame_flagStarts s u)).trans (.setLink _ l _)) store

end Sys2Proof.Machine

namespace Sys2Proof.Claims
open Sys2Proof.Machine

/-- Settles O59: by the move the step makes; a page is written only from an image that passed its tests, and a visit stands only on a
CLOSED catalogue. -/
theorem stepKeepsStore : Obligations.StepKeepsStore :=
  fun _ _ safe h => step_keeps (fun _ _ => storeSafe_move) safe h

end Sys2Proof.Claims
end

section
/-! PROOFS. Which flags a step sets and which it keeps, and that every step keeps the laws of the attention sources (R206, R208, R211). -/
namespace Sys2Proof.Machine

/-! ## Flags of conditions that start -/

theorem source_flagIfStarts (b s : State) (k j : Source) : (State.flagIfStarts b s k).source j =
    if j = k then { s.source k with flag := (s.source k).flag || (s.condition k && !b.condition k) } else s.source j := by
  unfold State.flagIfStarts
  by_cases hstarts : (s.condition k && !b.condition k) = true
  · rw [if_pos hstarts, State.source_flag, hstarts, Bool.or_true]
  · rw [if_neg hstarts, Bool.eq_false_of_not_eq_true hstarts, Bool.or_false]
    split
    case isTrue hjk => rw [hjk]
    case isFalse => rfl

@[simp] theorem condition_flagIfStarts (b s : State) (k j : Source) : (State.flagIfStarts b s k).condition j = s.condition j := by
  rcases State.flagIfStarts_eq b s k with h | h <;> rw [h]
  exact State.condition_flag s k j

/-- A step sets the flags of the conditions it starts and leaves every other flag (R208). An event source has no condition. -/
theorem source_flagStarts (b s : State) (k : Source) : (State.flagStarts b s).source k =
    { s.source k with flag := (s.source k).flag || (s.condition k && !b.condition k) } := by
  simp only [State.flagStarts, List.foldl_cons, List.foldl_nil, source_flagIfStarts, condition_flagIfStarts]
  cases k
  case blocked | reopened | moveWaiting | visitSettled => rfl
  all_goals simp [State.condition]

theorem condition_flagStarts (b s : State) (k : Source) : (State.flagStarts b s).condition k = s.condition k := by
  simp only [State.flagStarts, List.foldl_cons, List.foldl_nil, condition_flagIfStarts]

/-! ## Sources kept -/

/-- Every level stands, and every flag that was set still is. -/
def FlagsKept (s t : State) : Prop :=
  ∀ k : Source, (t.source k).level = (s.source k).level ∧ ((s.source k).flag = true → (t.source k).flag = true)

namespace FlagsKept

theorem refl (s : State) : FlagsKept s s := fun _ => ⟨rfl, id⟩

theorem trans {s t u : State} (h : FlagsKept s t) (k : FlagsKept t u) : FlagsKept s u :=
  fun j => ⟨(k j).1.trans (h j).1, fun hf => (k j).2 ((h j).2 hf)⟩

theorem of_attention {s t : State} (h : t.attention = s.attention) : FlagsKept s t := fun k => by
  simp only [State.source, h, true_and, imp_self]

theorem flag (s : State) (k : Source) : FlagsKept s (s.flag k) := fun j => by
  rw [State.source_flag]
  split
  case isTrue hjk => exact ⟨by rw [hjk], fun _ => rfl⟩
  case isFalse => exact ⟨rfl, id⟩

theorem condemn (s : State) (n : Nat) (c : CondemnCause) : FlagsKept s (s.condemn n c) := by
  refine trans (of_attention ?_) (flag _ .condemned)
  simp [State.modRecord_eq]

theorem evaluate (s : State) (n : Nat) (h : Handed) : FlagsKept s (s.evaluate n h) := by
  unfold State.evaluate
  split_ifs
  · exact refl s
  · exact condemn s n _
  · unfold State.plan
    simp only
    split
    · exact of_attention (by simp [State.block, State.modRecord_eq])
    · exact of_attention (by rw [applyEvaluation_eq])

theorem evaluateMeasured (s : State) (n : Nat) : FlagsKept s (s.evaluateMeasured n) := by
  unfold State.evaluateMeasured
  split
  · exact refl s
  · exact trans (of_attention rfl) (evaluate _ n _)

theorem verifyRecord (s : State) (n : Nat) (m : Measurement) : FlagsKept s (s.verifyRecord n m) := by
  unfold State.verifyRecord
  split
  · exact of_attention rfl
  · rename_i a _
    have hevaluated : FlagsKept s ((s.writeAssessment n a).evaluate n a.handed) := trans (of_attention rfl) (evaluate _ n _)
    exact hevaluated.trans (of_attention rfl)

theorem diameterTests (s : State) (n d : Nat) : FlagsKept s (s.diameterTests n d) := by
  unfold State.diameterTests
  simp only
  split_ifs
  · exact (condemn s n _).trans (flag _ _)
  · exact (flag s _).trans (trans (of_attention rfl) (evaluate _ n _))
  · exact refl s

theorem acceptDeviation (s : State) (n : Nat) : FlagsKept s (s.acceptDeviation n) := by
  unfold State.acceptDeviation
  simp only
  split <;> exact of_attention rfl

theorem holdFreed (s : State) : FlagsKept s s.holdFreed := by
  rcases s.holdFreed_cases with ⟨-, -, -, h⟩ | ⟨-, h⟩ <;> rw [h]
  · exact of_attention rfl
  · exact refl s

theorem setHold (s : State) (st : StationId) (h : Hold) : FlagsKept s (s.setHold st h) := by
  unfold State.setHold
  split <;> exact of_attention rfl

theorem setStation (s : State) (st : StationId) (c : StationContext) : FlagsKept s (s.setStation st c) := of_attention (by simp)

theorem setLink (s : State) (l : LinkId) (c : LinkContext) : FlagsKept s (s.setLink l c) := of_attention (by simp)

theorem resetOwner (s : State) (l : LinkId) : FlagsKept s (s.resetOwner l) := by
  have station : ∀ st, FlagsKept s (s.resetStation st) := fun st => by
    unfold State.resetStation
    split
    · exact setStation s st _
    · exact ((setStation s st _).trans (of_attention rfl)).trans (holdFreed _)
  cases l
  · exact refl s
  · exact station .a
  · exact station .b
  · exact of_attention rfl

theorem storeReport (s : State) (n : Nat) (m : Measurement) (serial : Option Nat) : FlagsKept s (s.storeReport n m serial) := by
  refine of_attention ?_
  unfold State.storeReport State.storeSerial
  split <;> rfl

theorem releaseRecord (s : State) (st : StationId) (n : Nat) : FlagsKept s (s.releaseRecord st n) := by
  unfold State.releaseRecord
  simp only
  split <;> exact of_attention (by simp [State.modStation_eq, State.modRecord_eq])

theorem request {s u : State} {l : LinkId} (h : RequestEffect s l u) : FlagsKept s u := by
  cases h
  case unchanged => exact refl s
  case reportRefused => exact of_attention rfl
  case reportConflict => exact trans (of_attention rfl) (flag s.countRefused _)
  case report => exact (storeReport s _ _ _).trans (evaluateMeasured _ _)
  case aligned => exact of_attention rfl
  case claim => exact of_attention (by simp [State.claim, State.modStation_eq, State.modRecord_eq])
  case grant => exact setStation s _ _
  case startPass => exact of_attention (by simp [State.startPass, State.modStation_eq, State.modRecord_eq])
  case passDone => exact trans (of_attention (by simp [State.endPass, State.modStation_eq, State.modRecord_eq])) (diameterTests _ _ _)
  case verify => exact trans (of_attention (by simp [State.storeVerify, State.modStation_eq, State.modRecord_eq])) (verifyRecord _ _ _)
  case release => exact (releaseRecord s _ _).trans (holdFreed _)
  case cursor => exact setStation s _ _

end FlagsKept

/-! ## Sources acknowledged and programmed -/

/-- An acknowledged source's flag becomes whether its condition holds; the others stand (R211). -/
theorem source_acknowledgeMask (s : State) (mask : Nat) (k : Source) : (s.acknowledgeMask mask).source k =
    { s.source k with flag := if maskNames mask k then s.condition k else (s.source k).flag } := by
  have hack : ∀ (u : State) (j : Source), (if maskNames mask j then u.acknowledge j else u).source k =
      if maskNames mask k ∧ j = k then { u.source k with flag := u.condition k } else u.source k := by
    intro u j
    by_cases hj : maskNames mask j = true
    · by_cases hjk : j = k
      · subst hjk
        simp [hj, State.acknowledge]
      · simp [hj, hjk, State.acknowledge, State.source_setSource_ne _ _ _ _ (Ne.symm hjk)]
    · by_cases hjk : j = k
      · subst hjk
        simp [hj]
      · simp [hj, hjk]
  have hcond : ∀ (u : State) (j : Source), (if maskNames mask j then u.acknowledge j else u).condition k = u.condition k := by
    intro u j
    split
    · exact State.condition_setSource u j k _
    · rfl
  have hfold : ∀ (ks : List Source) (u : State),
      (ks.foldl (fun t j => if maskNames mask j then t.acknowledge j else t) u).source k =
        if maskNames mask k = true ∧ k ∈ ks then { u.source k with flag := u.condition k } else u.source k := by
    intro ks
    induction ks with
    | nil => simp
    | cons j rest ih =>
      intro u
      rw [List.foldl_cons, ih, hack, hcond]
      by_cases hk : maskNames mask k = true <;> by_cases hj : j = k <;> by_cases hr : k ∈ rest <;> simp [hk, hj, hr, Ne.symm]
  rw [State.acknowledgeMask, hfold]
  by_cases hk : maskNames mask k = true <;> simp [hk, mem_allSources]

/-! ## Conditions that a command can only end -/

/-- Where stages, list, handshake and visit stand and no record is freed, no condition starts (R208). -/
theorem condition_mono {s t : State} (stage : ∀ n, (t.record n).stage = (s.record n).stage)
    (free : ∀ n, (t.record n).hold = .free → (s.record n).hold = .free) (list : t.reopenList = s.reopenList)
    (move : t.moveState = .pending → s.moveState = .pending) (visit : t.visit = s.visit) {k : Source} (h : t.condition k = true) :
    s.condition k = true := by
  cases k <;> simp only [State.condition, State.settled, stage, list, isLoaded_congr visit, recordCount_congr visit, Bool.and_eq_true,
    List.all_eq_true, beq_iff_eq] at h ⊢
  case blocked | reopened => exact h
  case moveWaiting => exact move h
  case visitSettled => exact ⟨h.1, fun n hn => ⟨(h.2 n hn).1, free n (h.2 n hn).2⟩⟩
  all_goals exact h

theorem attentionSafe_of_kept {s t : State} (safe : s.AttentionSafe) (kept : FlagsKept s t)
    (mono : ∀ k : Source, t.condition k = true → s.condition k = true) : t.AttentionSafe := fun k hk =>
  ⟨(kept k).1 ▸ (safe k hk).1, fun h => (kept k).2 ((safe k hk).2 (mono k h))⟩

/-- A rule that keeps levels in range and the flags of conditions that hold before it leaves the laws in force once the conditions it
starts are flagged (R208). -/
theorem attentionSafe_flagStarts {s u : State} (level : ∀ k : Source, (u.source k).level ≤ 7)
    (flag : ∀ k : Source, s.condition k = true → u.condition k = true → (u.source k).flag = true) :
    (State.flagStarts s u).AttentionSafe := by
  intro k _
  rw [source_flagStarts, condition_flagStarts]
  refine ⟨level k, fun h => ?_⟩
  cases hs : s.condition k with
  | true => simp [flag k hs h]
  | false => simp [h]

theorem attentionSafe_flagStarts_of_kept {s u : State} (safe : s.AttentionSafe) (kept : FlagsKept s u) :
    (State.flagStarts s u).AttentionSafe :=
  attentionSafe_flagStarts (fun k => (kept k).1 ▸ (safe k (mem_allSources k)).1)
    fun k hs _ => (kept k).2 ((safe k (mem_allSources k)).2 hs)

theorem source_reset (k : Source) : State.reset.source k = .afterReset := by
  cases k <;> rfl

theorem condition_reset (k : Source) : State.reset.condition k = false := by
  have hrecord : ∀ n, State.reset.record n = Record.vacant := tableGet_replicate
  cases k
  case blocked => simp [State.condition, hrecord, Record.vacant]
  all_goals rfl

/-- A pulse or tick frees no record and changes no stage. -/
theorem attentionSafe_countDown {s : State} (safe : s.AttentionSafe) (st : StationId) : (s.countDown st).AttentionSafe := by
  rcases s.countDown_cases st with ⟨-, h⟩ | ⟨-, -, h⟩ | ⟨-, -, h⟩ <;> rw [h]
  · exact safe
  · have hrecord : ∀ m, (s.expire st).record m = (s.abandonRecord st).record m := fun m => by
      simp [State.expire, State.modStation_eq, State.sendOrder, State.modLink_eq]
    have habandoned : ∀ m, ((s.abandonRecord st).record m).stage = (s.record m).stage
        ∧ (((s.abandonRecord st).record m).hold = .free → (s.record m).hold = .free) := by
      intro m
      unfold State.abandonRecord
      split
      · exact ⟨rfl, id⟩
      · rename_i n _
        rw [State.record_modRecord]
        split
        case isTrue hm => exact ⟨by rw [hm.1]; rfl, nofun⟩
        case isFalse => exact ⟨rfl, id⟩
    have hlist : (s.abandonRecord st).reopenList = s.reopenList ∧ (s.abandonRecord st).moveState = s.moveState
        ∧ (s.abandonRecord st).attention = s.attention := by
      unfold State.abandonRecord
      split <;> exact ⟨rfl, rfl, rfl⟩
    obtain ⟨hreopen, hmove, hattention⟩ := hlist
    refine attentionSafe_of_kept safe ?_ fun k =>
      condition_mono (fun m => by rw [hrecord]; exact (habandoned m).1) (fun m => by rw [hrecord]; exact (habandoned m).2) ?_ ?_
        (s.expire_workFrame st).visit
    · exact (FlagsKept.of_attention (t := (s.abandonRecord st).modStation st StationContext.expired)
        (by simp [State.modStation_eq, hattention])).trans ((FlagsKept.flag _ .passOverrun).trans (FlagsKept.setLink _ _ _))
    · simp [State.expire, State.modStation_eq, State.sendOrder, State.modLink_eq, hreopen]
    · simp [State.expire, State.modStation_eq, State.sendOrder, State.modLink_eq, hmove]
  · exact attentionSafe_congr (by simp) (by simp) (by simp) (by simp) (by simp) safe

theorem attentionSafe_setLink {s : State} (safe : s.AttentionSafe) (l : LinkId) (c : LinkContext) : (s.setLink l c).AttentionSafe :=
  attentionSafe_congr (by simp) (by simp) (by simp) (by simp) (by simp) safe

/-! ## The moves -/

theorem attentionSafe_host {s u : State} (safe : s.AttentionSafe) (h : HostEffect s u) : (State.flagStarts s u).AttentionSafe := by
  have kept : FlagsKept s u → (State.flagStarts s u).AttentionSafe := attentionSafe_flagStarts_of_kept safe
  cases h
  case unchanged => exact kept (.refl s)
  case acknowledge mask =>
    refine attentionSafe_flagStarts (fun k => ?_) fun k hs _ => ?_
    · rw [source_acknowledgeMask]
      exact (safe k (mem_allSources k)).1
    · rw [source_acknowledgeMask, hs]
      simp only [(safe k (mem_allSources k)).2 hs, ite_self]
  case program j enable level hlevel =>
    refine attentionSafe_flagStarts (fun k => ?_) fun k hs _ => ?_ <;> rw [State.source_program] <;> split
    · exact hlevel
    · exact (safe k (mem_allSources k)).1
    · rename_i hkj
      exact hkj ▸ (safe k (mem_allSources k)).2 hs
    · exact (safe k (mem_allSources k)).2 hs
  case replan => exact kept (.evaluateMeasured s _)
  case accept => exact kept (.acceptDeviation s _)
  case condemn => exact kept (.condemn s _ _)
  case halt st _ _ => exact kept (((FlagsKept.setStation s st _).trans (.setHold _ st _)).trans (.setLink _ _ _))
  case resume st _ _ => exact kept (((FlagsKept.setStation s st _).trans (.setHold _ st _)).trans (.setLink _ _ _))
  case resetLink l _ => exact kept ((FlagsKept.setLink s l _).trans (.resetOwner _ l))
  case abort n _ => exact kept (FlagsKept.trans (t := { s.setPage n .corrupt .unusable with catalogue := .opened }) (.of_attention rfl) (.flag _ _))
  all_goals exact kept (.of_attention rfl)

theorem flagsKept_recordFault (s : State) (l : LinkId) (cause : FaultCause) : FlagsKept s (s.recordFault l cause) :=
  (FlagsKept.setLink s l _).trans (.flag _ _)

theorem flagsKept_discardMalformed (s : State) (l : LinkId) : FlagsKept s (s.discardMalformed l) := by
  unfold State.discardMalformed
  split
  · exact .refl s
  · exact flagsKept_recordFault s l _

theorem flagsKept_dispose (s : State) (l : LinkId) (f : CellFrame) (d : Disposition) : FlagsKept s (s.dispose l f d) := by
  cases d
  case malformed => exact flagsKept_discardMalformed s l
  case disabled => exact .setLink s l _
  case starting => exact .setLink s l _
  case unknown => exact (flagsKept_recordFault s l _).trans (.setLink _ l _)
  case helloTaken =>
    simp only [State.dispose, State.helloAtArrival]
    split
    · exact ((FlagsKept.setLink s l _).trans (.flag _ _)).trans (.setLink _ l _)
    · exact .setLink s l _
  case linkReset => exact .setLink s l _
  case inboxFull => exact (flagsKept_recordFault s l _).trans (.setLink _ l _)
  case admitted => exact .setLink s l _

/-- A frame that arrives touches links and flags alone (R170 to R172). -/
theorem condition_dispose (s : State) (l : LinkId) (f : CellFrame) (d : Disposition) (k : Source) :
    (s.dispose l f d).condition k = s.condition k := by
  have hlink : ∀ (u : State) (g : LinkContext → LinkContext), (u.modLink l g).condition k = u.condition k := fun u g =>
    State.condition_congr (by simp [State.modLink_eq]) (by simp [State.modLink_eq]) (by simp [State.modLink_eq])
      (by simp [State.modLink_eq]) k
  have hfault : ∀ cause, (s.recordFault l cause).condition k = s.condition k := fun cause =>
    (State.condition_flag _ _ _).trans (hlink s _)
  have hdiscard : (s.discardMalformed l).condition k = s.condition k := by
    unfold State.discardMalformed
    split
    · rfl
    · exact hfault _
  cases d
  case malformed => exact hdiscard
  case disabled => exact hlink s _
  case starting => exact hlink s _
  case unknown => exact (hlink _ _).trans (hfault _)
  case helloTaken =>
    simp only [State.dispose, State.helloAtArrival]
    split
    · exact (hlink _ _).trans ((State.condition_flag _ _ _).trans (hlink s _))
    · exact hlink s _
  case linkReset => exact hlink s _
  case inboxFull => exact (hlink _ _).trans (hfault _)
  case admitted => exact hlink s _

theorem flagsKept_endStartUp (s : State) : FlagsKept s s.endStartUp := by
  have hdecided : ∀ u : State, FlagsKept u u.decideMove := fun u => by
    unfold State.decideMove
    split_ifs <;> exact .of_attention rfl
  have hchecked : FlagsKept s (State.decideMove
      { s with phase := .running, pageStatus := judgements s.pages, limits := limitsAtStart (s.page Config.limitsPage) }) :=
    FlagsKept.trans (.of_attention rfl) (hdecided _)
  unfold State.endStartUp
  simp only
  split_ifs
  · exact hchecked.trans (.flag _ _)
  · exact hchecked

/-- Every move of a safe part keeps the laws of the attention sources. -/
theorem attentionSafe_move {s t : State} (safe : s.Safe) (h : Move s t) : t.AttentionSafe := by
  have attention : s.AttentionSafe := by obtain ⟨-, -, -, -, -, -, -, -, -, attention⟩ := safe; exact attention
  cases h
  case idle => exact attention
  case window => exact attentionSafe_congr rfl rfl rfl rfl (fun _ => rfl) attention
  case reset =>
    intro k _
    have hcondition : State.condition { State.reset with pages := s.pagesAfterReset, moveRequest := s.moveRequest, pending := s.pending } k
        = false := (State.condition_congr (s := State.reset) rfl rfl rfl rfl k).trans (condition_reset k)
    rw [hcondition]
    have hsource : State.source { State.reset with pages := s.pagesAfterReset, moveRequest := s.moveRequest, pending := s.pending } k
        = .afterReset := source_reset k
    rw [hsource]
    exact ⟨by decide, nofun⟩
  case resetEnd => exact attentionSafe_congr rfl rfl rfl rfl (fun _ => rfl) attention
  case startUp =>
    refine attentionSafe_of_kept attention (flagsKept_endStartUp s) fun k => ?_
    have hfields : s.endStartUp.records = s.records ∧ s.endStartUp.reopenList = s.reopenList ∧ s.endStartUp.visit = s.visit
        ∧ s.endStartUp.moveState ≠ .pending := by
      rw [endStartUp_eq]
      split <;> exact ⟨rfl, rfl, rfl, nofun⟩
    obtain ⟨hrecords, hlist, hvisit, hmove⟩ := hfields
    exact condition_mono (fun n => by rw [record_congr hrecords]) (fun n => by rw [record_congr hrecords]; exact id) hlist
      (fun h => absurd h hmove) hvisit
  case level => exact attentionSafe_congr rfl rfl rfl rfl (fun _ => rfl) attention
  case rise =>
    refine attentionSafe_flagStarts_of_kept attention ?_
    unfold State.takeRise
    split_ifs <;> exact .of_attention rfl
  case fall =>
    exact attentionSafe_of_kept attention (.of_attention rfl) fun k =>
      condition_mono (s := s) (t := { s with moveRequest := false, moveState := .still }) (fun _ => rfl) (fun _ => id) rfl (nofun) rfl
  case pulse st => exact attentionSafe_countDown attention st
  case tick => exact attentionSafe_countDown (attentionSafe_countDown attention .a) .b
  case written n readBack _ =>
    unfold State.completeWrite
    split
    all_goals
      refine attentionSafe_of_kept attention ?_ fun k h => ?_
      · refine FlagsKept.trans (FlagsKept.of_attention ?_) (.flag _ _)
        rfl
      · exact (State.condition_congr (s := s) rfl rfl rfl rfl k).symm.trans h
  case arrival l f _ =>
    exact attentionSafe_of_kept attention (flagsKept_dispose s l f _) fun k h => by rwa [condition_dispose] at h
  case discard l _ =>
    exact attentionSafe_of_kept attention (flagsKept_discardMalformed s l) fun k h => by
      rwa [← condition_dispose s l (cellFrame 0#8 0#8 []) .malformed k]
  case sending l => exact attentionSafe_setLink attention l _
  case sent l => exact attentionSafe_setLink attention l _
  case host i r u _ heffect =>
    exact attentionSafe_congr rfl rfl rfl rfl (fun _ => rfl) (attentionSafe_host attention heffect)
  case request l k f r u _ heffect =>
    exact attentionSafe_setLink (attentionSafe_flagStarts_of_kept attention (.request heffect)) l _

end Sys2Proof.Machine

namespace Sys2Proof.Claims
open Sys2Proof.Machine

/-- Settles O60: a step that can start a condition flags it, and the others only end conditions and keep flags. -/
theorem stepKeepsAttention : Obligations.StepKeepsAttention :=
  fun _ _ safe h => step_keeps (fun _ _ => attentionSafe_move) safe h

end Sys2Proof.Claims
end

section
/-! PROOFS. Every step keeps the laws of the move handshake and of the alignment table (R100, R150 to R163). -/
namespace Sys2Proof.Machine

/-! ## What touches the links and flags alone -/

/-- `t` is `s` but for the link contexts and the attention sources. -/
def LinkFrame (s t : State) : Prop :=
  t = { s with linkGauge := t.linkGauge, linkA := t.linkA, linkB := t.linkB, linkMover := t.linkMover, attention := t.attention }

namespace LinkFrame

theorem refl (s : State) : LinkFrame s s := rfl

theorem trans {s t u : State} (h : LinkFrame s t) (k : LinkFrame t u) : LinkFrame s u := by
  unfold LinkFrame at h k ⊢
  rw [k, h]

theorem setLink (s : State) (l : LinkId) (c : LinkContext) : LinkFrame s (s.setLink l c) := by cases l <;> rfl

theorem flag (s : State) (k : Source) : LinkFrame s (s.flag k) := rfl

theorem flagStarts (s u : State) : LinkFrame u (State.flagStarts s u) := by
  rw [State.flagStarts_attention]
  exact rfl

theorem answer (s u : State) (l : LinkId) (f : InboxFrame) (r : Reply) : LinkFrame u ((State.flagStarts s u).answerInbox l f r) :=
  (flagStarts s u).trans (setLink _ l _)

theorem recordFault (s : State) (l : LinkId) (cause : FaultCause) : LinkFrame s (s.recordFault l cause) :=
  (setLink s l _).trans (flag _ _)

theorem discardMalformed (s : State) (l : LinkId) : LinkFrame s (s.discardMalformed l) := by
  unfold State.discardMalformed
  split
  · exact refl s
  · exact recordFault s l _

theorem dispose (s : State) (l : LinkId) (f : CellFrame) (d : Disposition) : LinkFrame s (s.dispose l f d) := by
  cases d
  case malformed => exact discardMalformed s l
  case disabled => exact setLink s l _
  case starting => exact setLink s l _
  case unknown => exact (recordFault s l _).trans (setLink _ l _)
  case helloTaken =>
    simp only [State.dispose, State.helloAtArrival]
    split
    · exact ((setLink s l _).trans (flag _ _)).trans (setLink _ l _)
    · exact setLink s l _
  case linkReset => exact setLink s l _
  case inboxFull => exact (recordFault s l _).trans (setLink _ l _)
  case admitted => exact setLink s l _

section
variable {s t : State} (h : LinkFrame s t)
include h

theorem phase : t.phase = s.phase := by rw [h]
theorem stationMode : t.stationMode = s.stationMode := by rw [h]
theorem records : t.records = s.records := by rw [h]
theorem serialMap : t.serialMap = s.serialMap := by rw [h]
theorem bogieGroups : t.bogieGroups = s.bogieGroups := by rw [h]
theorem carGroups : t.carGroups = s.carGroups := by rw [h]
theorem reopenList : t.reopenList = s.reopenList := by rw [h]
theorem visit : t.visit = s.visit := by rw [h]
theorem gaugeCounts : t.gaugeCounts = s.gaugeCounts := by rw [h]
theorem moveState : t.moveState = s.moveState := by rw [h]
theorem moveRequest : t.moveRequest = s.moveRequest := by rw [h]
theorem alignment : t.alignment = s.alignment := by rw [h]
theorem limits : t.limits = s.limits := by rw [h]
theorem pages : t.pages = s.pages := by rw [h]
theorem pageStatus : t.pageStatus = s.pageStatus := by rw [h]

theorem station (st : StationId) : t.station st = s.station st := by
  rw [h]; cases st <;> rfl

theorem anyHeld : t.anyHeld = s.anyHeld := by
  rw [h]; rfl

end

end LinkFrame

/-! ## The alignment table -/

theorem hasRepeat_eq_false_iff (l : List Nat) : hasRepeat l = false ↔ l.Nodup := by
  induction l with
  | nil => simp [hasRepeat]
  | cons n rest ih => simp [hasRepeat, ih]

theorem anyHeld_iff (s : State) : s.anyHeld = true ↔ ∃ st n, (s.station st).held = some n := by
  simp only [State.anyHeld, Bool.or_eq_true, Option.isSome_iff_exists]
  constructor
  · rintro (⟨n, h⟩ | ⟨n, h⟩)
    · exact ⟨.a, n, h⟩
    · exact ⟨.b, n, h⟩
  · rintro ⟨st, n, h⟩
    cases st
    · exact .inl ⟨n, h⟩
    · exact .inr ⟨n, h⟩

theorem anyHeld_of_held {s : State} {st : StationId} {n : Nat} (h : (s.station st).held = some n) : s.anyHeld = true :=
  (anyHeld_iff s).mpr ⟨st, n, h⟩

theorem anyHeld_eq_false_iff (s : State) : s.anyHeld = false ↔ ∀ st, (s.station st).held = none := by
  rw [← Bool.not_eq_true, anyHeld_iff]
  push Not
  exact forall_congr' fun st => Option.eq_none_iff_forall_ne_some.symm

/-- A write of a station's context that leaves what it holds as it was keeps the laws of motion. -/
theorem motionSafe_setStation {s : State} {st : StationId} {c : StationContext} (safe : s.MotionSafe)
    (held : c.held = (s.station st).held) : (s.setStation st c).MotionSafe :=
  motionSafe_congr (by simp) (by simp) (by simp) (by simp) (by simp) (anyHeld_setStation held) (by simp) (by simp) safe

theorem motionSafe_modStation {s : State} (safe : s.MotionSafe) (st : StationId) (f : StationContext → StationContext)
    (held : (f (s.station st)).held = (s.station st).held) : (s.modStation st f).MotionSafe :=
  motionSafe_setStation safe held

theorem motionSafe_of_plan {s t : State} (h : PlanFrame s t) (safe : s.MotionSafe) : t.MotionSafe :=
  motionSafe_congr h.phase h.stationMode h.moveState h.moveRequest h.alignment h.anyHeld h.visit h.gaugeCounts safe

theorem motionSafe_of_link {s t : State} (h : LinkFrame s t) (safe : s.MotionSafe) : t.MotionSafe :=
  motionSafe_congr h.phase h.stationMode h.moveState h.moveRequest h.alignment h.anyHeld h.visit h.gaugeCounts safe

theorem motionSafe_setRecord {s : State} (safe : s.MotionSafe) (n : Nat) (r : Record) : (s.setRecord n r).MotionSafe :=
  motionSafe_of_plan rfl safe

theorem motionSafe_setHold {s : State} (safe : s.MotionSafe) (st : StationId) (h : Hold) : (s.setHold st h).MotionSafe := by
  unfold State.setHold
  split
  · exact safe
  · exact motionSafe_setRecord safe _ _

theorem present_empty : Alignment.empty.present = [] := rfl

/-- A state with an empty table and no count, in which nothing is held or pending, keeps the laws of motion. -/
theorem motionSafe_of_empty {s : State} (level : s.phase = .running → (s.moveState = .still ↔ s.moveRequest = false))
    (granted : s.moveState = .granted → s.anyHeld = false) (pending : s.moveState = .pending → s.anyHeld = true)
    (alignment : s.alignment = .empty) (counts : s.gaugeCounts = { accepted := 0, refused := 0 }) : s.MotionSafe := by
  refine ⟨level, fun h => ⟨alignment, granted h⟩, pending, ?_, ?_, ?_, ?_, ?_⟩
  · rw [alignment]; exact List.nodup_nil
  · rw [alignment]; exact fun n hn => by cases hn
  · rw [alignment]; exact fun _ => rfl
  · rw [counts]; exact Nat.zero_le _
  · rw [counts]; exact Nat.zero_le _

/-- A hold that is freed and reported keeps the laws: a pending move with nothing held is granted (R154). -/
theorem motionSafe_holdFreed {s u : State} (safe : s.MotionSafe) (phase : u.phase = s.phase) (mode : u.stationMode = s.stationMode)
    (move : u.moveState = s.moveState) (level : u.moveRequest = s.moveRequest) (alignment : u.alignment = s.alignment)
    (visit : u.visit = s.visit) (counts : u.gaugeCounts = s.gaugeCounts) (held : s.anyHeld = false → u.anyHeld = false) :
    u.holdFreed.MotionSafe := by
  obtain ⟨hlevel, hgranted, -, hnodup, hrange, hsingle, haccepted, hrefused⟩ := safe
  rcases u.holdFreed_cases with ⟨hpending, hA, hB, h⟩ | ⟨hno, h⟩ <;> rw [h]
  · have hfree : u.anyHeld = false := by simp only [State.anyHeld, hA, hB]; rfl
    refine motionSafe_of_empty (fun hrun => ?_) (fun _ => hfree) nofun rfl rfl
    have := hlevel (phase.symm.trans hrun)
    rw [← move, ← level, hpending] at this
    exact ⟨nofun, fun hlow => absurd (this.mpr hlow) (by decide)⟩
  · refine ⟨?_, fun hg => ?_, fun hp => ?_, ?_, ?_, ?_, ?_, ?_⟩
    · rwa [phase, move, level]
    · rw [alignment]
      exact ⟨(hgranted (move.symm.trans hg)).1, held (hgranted (move.symm.trans hg)).2⟩
    · by_contra hfree
      rw [Bool.not_eq_true, anyHeld_eq_false_iff] at hfree
      exact hno ⟨hp, hfree .a, hfree .b⟩
    · rwa [alignment]
    · rwa [alignment, recordCount_congr visit]
    · rwa [alignment, mode]
    · rwa [counts]
    · rwa [counts]

theorem bump_le {n : Nat} (h : n ≤ Config.gaugeCountMax) : bump n ≤ Config.gaugeCountMax := by
  unfold bump
  split <;> omega

theorem motionSafe_countRefused {s : State} (safe : s.MotionSafe) : s.countRefused.MotionSafe := by
  obtain ⟨hlevel, hgranted, hpending, hnodup, hrange, hsingle, haccepted, hrefused⟩ := safe
  exact ⟨hlevel, hgranted, hpending, hnodup, hrange, hsingle, haccepted, bump_le hrefused⟩

theorem motionSafe_storeReport {s : State} (safe : s.MotionSafe) (n : Nat) (m : Measurement) (serial : Option Nat) :
    (s.storeReport n m serial).MotionSafe := by
  have stored : (s.storeSerial n serial).MotionSafe := by
    unfold State.storeSerial
    split <;> exact safe
  obtain ⟨hlevel, hgranted, hpending, hnodup, hrange, hsingle, haccepted, hrefused⟩ := stored
  exact ⟨hlevel, hgranted, hpending, hnodup, hrange, hsingle, bump_le haccepted, hrefused⟩

/-! ## Holds taken and freed -/

/-- A CLAIM is taken in STILL, where nothing is pending or granted (R119, R150). -/
theorem motionSafe_claim {s : State} (safe : s.MotionSafe) (hstill : s.moveState = .still) (st : StationId) (n : Nat) :
    (s.claim st n).MotionSafe := by
  obtain ⟨hlevel, -, -, hnodup, hrange, hsingle, haccepted, hrefused⟩ := safe
  have claimed : (s.setStation st { s.station st with held := some n }).MotionSafe := by
    refine ⟨?_, ?_, ?_, ?_, ?_, ?_, ?_, ?_⟩
    · simpa using hlevel
    · simp [hstill]
    · simp [hstill]
    · simpa using hnodup
    · simpa using hrange
    · simpa using hsingle
    · simpa using haccepted
    · simpa using hrefused
  exact motionSafe_of_plan ((planFrame_modRecord _ n _).trans (planFrame_unlist _ n)) claimed

/-- With a station's hold gone the part holds no more than before. -/
theorem anyHeld_setStation_freed {s : State} {st : StationId} {c : StationContext} (hc : c.held = none) (h : s.anyHeld = false) :
    (s.setStation st c).anyHeld = false := by
  rw [anyHeld_eq_false_iff] at h ⊢
  intro q
  by_cases hq : q = st
  · rw [hq, State.station_setStation_same, hc]
  · rw [State.station_setStation_ne _ _ _ _ hq, h q]

theorem motionSafe_release {s : State} (safe : s.MotionSafe) (st : StationId) (n : Nat) :
    (s.releaseRecord st n).holdFreed.MotionSafe := by
  have hheld : s.anyHeld = false → (s.releaseRecord st n).anyHeld = false := by
    intro h
    have hfreed := anyHeld_setStation_freed (st := st) (c := { s.station st with held := none, grant := none }) rfl h
    unfold State.releaseRecord
    simp only
    split <;> exact hfreed
  have hframe := WorkFrame.releaseRecord s st n
  have hrest : (s.releaseRecord st n).moveState = s.moveState ∧ (s.releaseRecord st n).alignment = s.alignment
      ∧ (s.releaseRecord st n).gaugeCounts = s.gaugeCounts := by
    unfold State.releaseRecord
    simp only
    split <;> simp [State.modStation_eq, State.modRecord_eq]
  exact motionSafe_holdFreed safe hframe.phase hframe.stationMode hrest.1 hframe.moveRequest hrest.2.1 hframe.visit hrest.2.2 hheld

/-- A station link's reset: what it held is freed and reported (R146, R154). -/
theorem motionSafe_resetStation {s : State} (safe : s.MotionSafe) (st : StationId) : (s.resetStation st).MotionSafe := by
  unfold State.resetStation
  split
  · rename_i hnone
    exact motionSafe_setStation safe (c := (s.station st).linkReset) (by rw [hnone]; rfl)
  · refine motionSafe_holdFreed safe ?_ ?_ ?_ ?_ ?_ ?_ ?_ fun h => ?_
    case refine_8 => exact anyHeld_setStation_freed (st := st) (c := (s.station st).linkReset) rfl h
    all_goals simp [State.modStation_eq, State.modRecord_eq]

theorem ite_none_sublist (c : Prop) [Decidable c] (o : Option Nat) : (if c then o else none).toList.Sublist o.toList := by
  split
  · exact List.Sublist.refl _
  · exact List.nil_sublist _

/-- A mover link's reset keeps the fields of stations that hold a record (R163). -/
theorem motionSafe_resetMover {s : State} (safe : s.MotionSafe) : s.resetMover.MotionSafe := by
  obtain ⟨hlevel, hgranted, hpending, hnodup, hrange, hsingle, -, -⟩ := safe
  have hsub : s.keptAlignment.present.Sublist s.alignment.present := by
    unfold State.keptAlignment Alignment.present
    exact List.Sublist.append (List.Sublist.append (List.nil_sublist _) (ite_none_sublist _ _)) (ite_none_sublist _ _)
  refine ⟨hlevel, fun hg => ⟨?_, (hgranted hg).2⟩, hpending, hnodup.sublist hsub, fun n hn => hrange n (hsub.subset hn), fun hs => ?_,
    Nat.zero_le _, Nat.zero_le _⟩
  · simp only [State.resetMover, State.keptAlignment, (hgranted hg).1, Alignment.empty, ite_self]
  · simp only [State.resetMover, State.keptAlignment, hsingle hs, ite_self]

theorem motionSafe_resetOwner {s : State} (safe : s.MotionSafe) (l : LinkId) : (s.resetOwner l).MotionSafe := by
  cases l
  · exact safe
  · exact motionSafe_resetStation safe .a
  · exact motionSafe_resetStation safe .b
  · exact motionSafe_resetMover safe

theorem motionSafe_countDown {s : State} (safe : s.MotionSafe) (st : StationId) : (s.countDown st).MotionSafe := by
  rcases s.countDown_cases st with ⟨-, h⟩ | ⟨-, -, h⟩ | ⟨-, -, h⟩ <;> rw [h]
  · exact safe
  · have habandoned : (s.abandonRecord st).MotionSafe ∧ (s.abandonRecord st).station st = s.station st := by
      unfold State.abandonRecord
      split
      · exact ⟨safe, rfl⟩
      · exact ⟨motionSafe_setRecord safe _ _, rfl⟩
    exact motionSafe_of_link ((LinkFrame.flag _ .passOverrun).trans (.setLink _ _ _)) (motionSafe_setStation habandoned.1 rfl)
  · exact motionSafe_setStation safe rfl

/-! ## The moves -/

theorem recordCount_of_not_loaded {s : State} (h : s.isLoaded = false) : s.recordCount = 0 := by
  unfold State.isLoaded at h
  unfold State.recordCount State.consist
  split at h
  · cases h
  · rfl
  · rfl

theorem motionSafe_acknowledgeMask {s : State} (safe : s.MotionSafe) (mask : Nat) : (s.acknowledgeMask mask).MotionSafe := by
  unfold State.acknowledgeMask
  generalize allSources = ks
  induction ks generalizing s with
  | nil => exact safe
  | cons k rest ih =>
    refine ih (s := if maskNames mask k then s.acknowledge k else s) ?_
    split <;> exact safe

theorem motionSafe_host {s u : State} (safe : s.MotionSafe) (h : HostEffect s u) : u.MotionSafe := by
  cases h
  case unchanged => exact safe
  case acknowledge mask => exact motionSafe_acknowledgeMask safe mask
  case program => exact safe
  case replan => exact motionSafe_of_plan (planFrame_evaluateMeasured _ _) safe
  case accept => exact motionSafe_of_plan (planFrame_acceptDeviation _ _) safe
  case condemn => exact motionSafe_of_plan (planFrame_condemn _ _ _) safe
  case openVisit id hno _ _ _ _ =>
    obtain ⟨hlevel, hgranted, hpending, hnodup, hrange, hsingle, hcounts⟩ := safe
    have hzero : s.recordCount = 0 := by simp only [State.recordCount, consist_of_noVisit hno, List.length_nil, Nat.mul_zero]
    rw [hzero] at hrange
    exact ⟨hlevel, hgranted, hpending, hnodup, hrange, hsingle, hcounts⟩
  case load id cars hopen _ _ _ =>
    obtain ⟨hlevel, hgranted, hpending, hnodup, hrange, hsingle, hcounts⟩ := safe
    have hzero : s.recordCount = 0 := recordCount_of_not_loaded (by simp only [State.isLoaded, hopen])
    refine ⟨hlevel, hgranted, hpending, hnodup, fun n hn => ?_, hsingle, hcounts⟩
    have := hrange n hn
    omega
  case window => exact safe
  case close =>
    obtain ⟨hlevel, hgranted, hpending, -⟩ := safe
    exact motionSafe_of_empty hlevel (fun h => (hgranted h).2) hpending rfl rfl
  case halt st _ _ => exact motionSafe_of_link (.setLink _ _ _) (motionSafe_setHold (motionSafe_modStation safe _ _ rfl) st _)
  case resume st _ _ => exact motionSafe_of_link (.setLink _ _ _) (motionSafe_setHold (motionSafe_modStation safe _ _ rfl) st _)
  case resetLink l _ => exact motionSafe_resetOwner (motionSafe_of_link (.setLink s l _) safe) l
  case openCatalogue => exact safe
  case closeCatalogue => exact safe
  case stage => exact safe
  case commit => exact safe
  case abort => exact safe

theorem motionSafe_request {s u : State} {l : LinkId} (safe : s.MotionSafe) (h : RequestEffect s l u) : u.MotionSafe := by
  cases h
  case unchanged => exact safe
  case reportRefused => exact motionSafe_countRefused safe
  case reportConflict => exact motionSafe_of_link (.flag _ _) (motionSafe_countRefused safe)
  case report => exact motionSafe_of_plan (planFrame_evaluateMeasured _ _) (motionSafe_storeReport safe _ _ _)
  case aligned a hstill hfree hrange hsingle =>
    obtain ⟨hlevel, -⟩ := safe
    simp only [State.alignmentInRange, Bool.and_eq_true, List.all_eq_true, decide_eq_true_eq, Bool.not_eq_true',
      hasRepeat_eq_false_iff] at hrange
    exact ⟨hlevel, fun h => absurd (hstill.symm.trans h) (by decide), fun h => absurd (hstill.symm.trans h) (by decide), hrange.2,
      hrange.1, hsingle, Nat.zero_le _, Nat.zero_le _⟩
  case claim st n hstill _ _ _ => exact motionSafe_claim safe hstill st n
  case grant => exact motionSafe_modStation safe _ _ rfl
  case startPass => exact motionSafe_setRecord (motionSafe_modStation safe _ _ rfl) _ _
  case passDone =>
    exact motionSafe_of_plan (planFrame_diameterTests _ _ _) (motionSafe_setRecord (motionSafe_modStation safe _ _ rfl) _ _)
  case verify =>
    exact motionSafe_of_plan (planFrame_verifyRecord _ _ _) (motionSafe_setRecord (motionSafe_modStation safe _ _ rfl) _ _)
  case release st n _ _ _ => exact motionSafe_release safe st n
  case cursor => exact motionSafe_modStation safe _ _ rfl

/-- A part before work has an empty table and holds nothing (R117, R150, R159). -/
theorem motion_before_work {s : State} (quiet : s.QuietSafe) (h : s.phase ≠ .running) :
    s.alignment = .empty ∧ s.anyHeld = false ∧ s.gaugeCounts = { accepted := 0, refused := 0 } ∧ s.moveState = .still := by
  cases hp : s.phase with
  | running => exact absurd hp h
  | resetAsserted => rw [quiet.1 hp]; exact ⟨rfl, rfl, rfl, rfl⟩
  | starting => rw [quiet.2 hp]; exact ⟨rfl, rfl, rfl, rfl⟩

theorem motionSafe_startUp {s : State} (quiet : s.QuietSafe) (hp : s.phase = .starting) : s.endStartUp.MotionSafe := by
  obtain ⟨halignment, hfree, hcounts, -⟩ := motion_before_work quiet (by rw [hp]; decide)
  rw [endStartUp_eq]
  split
  case isTrue hhigh =>
    exact motionSafe_of_empty (fun _ => ⟨nofun, fun hlow => absurd (hhigh.symm.trans hlow) (by decide)⟩) (fun _ => hfree) nofun rfl rfl
  case isFalse hlow =>
    exact motionSafe_of_empty (fun _ => ⟨fun _ => by simpa using hlow, fun _ => rfl⟩) nofun nofun halignment hcounts

theorem motionSafe_rise {s : State} (safe : s.MotionSafe) : State.MotionSafe (State.takeRise { s with moveRequest := true }) := by
  obtain ⟨-, -, -, hnodup, hrange, hsingle, hcounts⟩ := safe
  unfold State.takeRise
  split
  case isTrue hheld => exact ⟨fun _ => ⟨nofun, nofun⟩, nofun, fun _ => hheld, hnodup, hrange, hsingle, hcounts⟩
  case isFalse hfree => exact motionSafe_of_empty (fun _ => ⟨nofun, nofun⟩) (fun _ => Bool.not_eq_true _ ▸ hfree) nofun rfl rfl

/-- Every move of a safe part keeps the laws of motion. -/
theorem motionSafe_move {s t : State} (safe : s.Safe) (h : Move s t) : t.MotionSafe := by
  obtain ⟨quiet, -, -, motion, -⟩ := safe
  cases h
  case idle => exact motion
  case window => exact motion
  case reset => exact motionSafe_of_empty nofun nofun nofun rfl rfl
  case resetEnd strap hreset =>
    obtain ⟨halignment, hfree, hcounts, hstill⟩ := motion_before_work quiet (by rw [hreset]; decide)
    exact motionSafe_of_empty nofun (fun h => absurd (hstill.symm.trans h) (by decide)) (fun h => absurd (hstill.symm.trans h) (by decide))
      halignment hcounts
  case startUp hp => exact motionSafe_startUp quiet hp
  case level high hquiet =>
    obtain ⟨hlevel, others⟩ := motion
    exact ⟨fun hrun => absurd ((hlevel hrun).mpr (hquiet hrun).1) (hquiet hrun).2, others⟩
  case rise => exact motionSafe_of_link (.flagStarts s _) (motionSafe_rise motion)
  case fall =>
    obtain ⟨-, -, -, others⟩ := motion
    exact ⟨fun _ => ⟨fun _ => rfl, fun _ => rfl⟩, nofun, nofun, others⟩
  case pulse st => exact motionSafe_countDown motion st
  case tick => exact motionSafe_countDown (motionSafe_countDown motion .a) .b
  case written =>
    unfold State.completeWrite
    split <;> exact motion
  case arrival l f _ => exact motionSafe_of_link (.dispose s l f _) motion
  case discard l _ => exact motionSafe_of_link (.discardMalformed s l) motion
  case sending l => exact motionSafe_of_link (.setLink s l _) motion
  case sent l => exact motionSafe_of_link (.setLink s l _) motion
  case host i r u _ heffect =>
    have hflags : (State.flagStarts s u).MotionSafe := motionSafe_of_link (.flagStarts s u) (motionSafe_host motion heffect)
    exact hflags
  case request l k f r u _ heffect => exact motionSafe_of_link (.answer s u l f r) (motionSafe_request motion heffect)

end Sys2Proof.Machine

namespace Sys2Proof.Claims
open Sys2Proof.Machine

/-- Settles O55: a hold is taken in STILL alone, and one that is freed completes a pending move where it was the last. -/
theorem stepKeepsMotion : Obligations.StepKeepsMotion :=
  fun _ _ safe h => step_keeps (fun _ _ => motionSafe_move) safe h

end Sys2Proof.Claims
end

section
/-! PROOFS. Every step keeps the laws of the links: an answered frame and the answer that waits for it leave together, orders and interface
answers never pass four (R166 to R179). -/
namespace Sys2Proof.Machine

/-! ## One link: the outgoing list -/

section
variable {l : LinkId} {c : LinkContext}

/-- A change of the outgoing list that keeps the waiting answers and the bounds keeps a link's laws. -/
theorem linkSafe_outgoing {out : List OutFrame} {sending : Bool} (safe : LinkContext.Safe l c)
    (answers : out.filter (fun f => f.origin == .inboxAnswer) = c.outgoing.filter (fun f => f.origin == .inboxAnswer))
    (interface : (out.filter (fun f => f.origin == .interfaceAnswer)).length ≤ Config.interfaceAnswerDepth)
    (orders : (out.filter (fun f => f.origin == .order)).length ≤ Config.orderDepth)
    (station : l = .gauge ∨ l = .mover → (out.filter (fun f => f.origin == .order)).length = 0)
    (nonempty : sending = true → out ≠ []) : LinkContext.Safe l { c with outgoing := out, transmitting := sending } := by
  obtain ⟨hdepth, hsplit, hanswers, -, -, -, -, hdown, hadmitted⟩ := safe
  exact ⟨hdepth, hsplit, hanswers.trans (by rw [answers]), interface, orders, station, nonempty, hdown, hadmitted⟩

theorem linkSafe_startTransmission (safe : LinkContext.Safe l c) : LinkContext.Safe l c.startTransmission := by
  have ⟨_, _, _, hinterface, horders, hstation, hsending, _, _⟩ := safe
  rw [startTransmission_eq]
  refine linkSafe_outgoing safe rfl hinterface horders hstation fun h => ?_
  rw [Bool.or_eq_true, Bool.not_eq_true', List.isEmpty_eq_false_iff] at h
  exact h.elim id hsending

theorem linkSafe_interfaceAnswer (safe : LinkContext.Safe l c) (kind : Byte) (tag : Tag) (r : Reply) :
    LinkContext.Safe l (c.interfaceAnswer kind tag r) := by
  have ⟨_, _, _, hinterface, horders, hstation, _, _, _⟩ := safe
  have hfour := c.waiting_interfaceAnswer kind tag r hinterface
  rcases c.interfaceAnswer_cases kind tag r with ⟨-, h⟩ | ⟨-, h⟩
  · rw [h] at hfour ⊢
    exact linkSafe_outgoing safe (by simp) hfour (by simpa [LinkContext.waiting] using horders)
      (by simpa [LinkContext.waiting] using hstation) (by simp)
  · rwa [h]

/-- Dropping an order leaves every other frame (R178). -/
theorem filter_dropFirstOrder {p : OutFrame → Bool} (hp : ∀ f, f.origin = .order → p f = false) (fs : List OutFrame) :
    (dropFirstOrder fs).filter p = fs.filter p := by
  induction fs with
  | nil => rfl
  | cons f rest ih =>
    by_cases hf : f.origin = .order
    · simp [dropFirstOrder, hf, hp f hf]
    · simp [dropFirstOrder, hf, List.filter_cons, ih]

theorem orders_dropFirstOrder (fs : List OutFrame) :
    ((dropFirstOrder fs).filter (fun f => f.origin == .order)).length = (fs.filter (fun f => f.origin == .order)).length - 1 := by
  induction fs with
  | nil => rfl
  | cons f rest ih => by_cases hf : f.origin = .order <;> simp [dropFirstOrder, hf, ih]

theorem filter_dropOrder {p : OutFrame → Bool} (hp : ∀ f, f.origin = .order → p f = false) (c : LinkContext) :
    c.dropOrder.outgoing.filter p = c.outgoing.filter p := by
  unfold LinkContext.dropOrder
  split
  · rename_i hout
    simp only [hout, List.filter_cons, filter_dropFirstOrder hp]
  · exact filter_dropFirstOrder hp _

/-- Where four orders wait one of them is not being sent, and it is dropped (R178). -/
theorem orders_dropOrder (h : c.waiting .order = 4) : c.dropOrder.waiting .order = 3 := by
  unfold LinkContext.dropOrder
  unfold LinkContext.waiting at h ⊢
  split
  · rename_i f rest _ hout
    rw [hout] at h
    by_cases hf : f.origin = .order
    · rw [List.filter_cons_of_pos (by simp [hf]), List.length_cons] at h ⊢
      rw [orders_dropFirstOrder]
      omega
    · rw [List.filter_cons_of_neg (by simp [hf])] at h ⊢
      rw [orders_dropFirstOrder, h]
  · rw [orders_dropFirstOrder, h]

/-- What an order leaves of the outgoing list: every other frame, and no more than four orders (R178). -/
theorem linkSafe_order (safe : LinkContext.Safe l c) (hl : l ≠ .gauge ∧ l ≠ .mover) (o : Order) (n : Nat) :
    LinkContext.Safe l (c.order o n) := by
  have ⟨_, _, _, hinterface, horders, _, _, _, _⟩ := safe
  obtain ⟨kept, hkept, hlost, hroom⟩ : ∃ kept : LinkContext,
      c.order o n = { c with outgoing := kept.outgoing ++ [⟨.order, o.code, 0#4, be 1 n⟩], transmitting := c.transmitting }
        ∧ (∀ p : OutFrame → Bool, (∀ f, f.origin = .order → p f = false) → kept.outgoing.filter p = c.outgoing.filter p)
        ∧ kept.waiting .order < 4 := by
    rw [LinkContext.order_outgoing]
    unfold LinkContext.order
    simp only
    split
    · exact ⟨c, rfl, fun _ _ => rfl, by assumption⟩
    · rename_i hfull
      have hfour : c.waiting .order = 4 := Nat.le_antisymm horders (Nat.le_of_not_lt hfull)
      refine ⟨c.dropOrder, rfl, fun p hp => filter_dropOrder hp c, ?_⟩
      rw [orders_dropOrder hfour]
      decide
  rw [hkept]
  refine linkSafe_outgoing safe ?_ ?_ ?_ ?_ ?_
  · rw [List.filter_append, hlost _ (by simp +contextual)]
    simp
  · rw [List.filter_append, hlost _ (by simp +contextual)]
    simpa [LinkContext.waiting] using hinterface
  · simpa [LinkContext.waiting] using hroom
  · exact fun h => absurd h (by simp [hl.1, hl.2])
  · simp

/-! ## One link: the inbox -/

/-- A link whose untaken frames are all answered LINK RESET (R179). -/
theorem linkSafe_flush (safe : LinkContext.Safe l c) : LinkContext.Safe l c.flush := by
  obtain ⟨hdepth, hsplit, hanswers, hinterface, horders, hstation, hsending, -, hadmitted⟩ := safe
  have hall : (c.flush.inbox.filter fun f => f.answered) = c.flush.inbox := by
    rw [List.filter_eq_self]
    simp [LinkContext.flush]
  have hnone : c.flush.untaken = [] := by
    simp [LinkContext.untaken, LinkContext.flush]
  have hadded : ∀ o, o ≠ .inboxAnswer → c.flush.waiting o = c.waiting o := by
    intro o ho
    simp [LinkContext.flush, LinkContext.waiting, List.filter_map, Function.comp_def, answerTo, Ne.symm ho]
  refine ⟨by simpa [LinkContext.flush] using hdepth, by rw [hall, hnone, List.append_nil], ?_, ?_, ?_, ?_, ?_, fun _ => hnone, ?_⟩
  · have hmarks : (c.flush.inbox.map fun f => (f.kind.code, f.tag)) = c.inbox.map fun f => (f.kind.code, f.tag) := by
      simp [LinkContext.flush, Function.comp_def]
    rw [hall, hmarks, hsplit, List.map_append, hanswers]
    simp [LinkContext.flush, List.filter_map, Function.comp_def, answerTo]
  · rwa [hadded _ (by decide)]
  · rwa [hadded _ (by decide)]
  · rwa [hadded _ (by decide)]
  · intro h
    have := hsending h
    simp [LinkContext.flush, this]
  · intro f hf
    obtain ⟨g, hg, rfl⟩ := List.mem_map.mp hf
    exact hadmitted g hg

/-- A frame put behind a full list of older ones (R170, R173). -/
theorem linkSafe_receive (safe : LinkContext.Safe l c) {k : RequestKind} {f : CellFrame} (hup : c.state = .up) (hroom : c.inbox.length < 4)
    (hadmits : l.admits k = true) (hfits : k.fits f.payload.length = true) : LinkContext.Safe l (c.receive k f) := by
  obtain ⟨-, hsplit, hanswers, hinterface, horders, hstation, hsending, -, hadmitted⟩ := safe
  have hold : ((c.receive k f).inbox.filter fun f => f.answered) = c.inbox.filter fun f => f.answered := by
    simp [LinkContext.receive]
  have hnew : (c.receive k f).untaken = c.untaken ++ [⟨k, f.tag.setWidth 4, f.payload, false⟩] := by
    simp [LinkContext.receive, LinkContext.untaken]
  refine ⟨by simpa [LinkContext.receive] using hroom, ?_, by rwa [hold], hinterface, horders, hstation, hsending,
    fun h => absurd hup h, fun g hg => ?_⟩
  · rw [hold, hnew, ← List.append_assoc, ← hsplit]
    rfl
  · rcases List.mem_append.mp hg with hg | hg
    · exact hadmitted g hg
    · rw [List.mem_singleton.mp hg]
      exact ⟨hadmits, hfits⟩

/-- In an inbox whose answered frames are its oldest, the oldest untaken frame has no answered one behind it (R173). -/
theorem untaken_behind {older newer : List InboxFrame} {f : InboxFrame} (hf : f.answered = false)
    (hsplit : older ++ f :: newer = (older ++ f :: newer).filter (fun g => g.answered) ++ (older ++ f :: newer).filter (fun g => !g.answered))
    (holder : ∀ g ∈ older, g.answered = true) : newer.filter (fun g => g.answered) = [] := by
  have hnone : older.filter (fun g => !g.answered) = [] := List.filter_eq_nil_iff.mpr fun g hg => by simp [holder g hg]
  rw [List.filter_append, List.filter_append, List.filter_eq_self.mpr holder, hnone, List.nil_append, List.append_assoc,
    List.append_cancel_left_eq, List.filter_cons_of_neg (by simp [hf])] at hsplit
  cases hn : newer.filter (fun g => g.answered) with
  | nil => rfl
  | cons g rest =>
    rw [hn, List.cons_append, List.cons.injEq] at hsplit
    have hg : g ∈ newer.filter (fun g => g.answered) := by rw [hn]; exact List.mem_cons_self
    rw [← hsplit.1, List.mem_filter] at hg
    exact absurd (hg.2.symm.trans hf) (by decide)

/-- The oldest untaken frame is answered; its answer is the newest that waits (R173). -/
theorem linkSafe_answerOldest (safe : LinkContext.Safe l c) {f : InboxFrame} (hf : c.oldestUntaken = some f) (hup : c.state = .up) (r : Reply) :
    LinkContext.Safe l (c.answerOldest f r) := by
  obtain ⟨hdepth, hsplit, hanswers, hinterface, horders, hstation, hsending, -, hadmitted⟩ := safe
  obtain ⟨older, newer, hinbox, holder, hfalse, hmark⟩ := markOldest_split hf
  have hbehind : newer.filter (fun g => g.answered) = [] := by
    rw [LinkContext.untaken, hinbox] at hsplit
    exact untaken_behind hfalse hsplit holder
  have hfront : older.filter (fun g => g.answered) = older := List.filter_eq_self.mpr holder
  have hnewer : newer.filter (fun g => !g.answered) = newer := by
    rw [List.filter_eq_self]
    intro g hg
    simpa using (List.filter_eq_nil_iff.mp hbehind) g hg
  have hnone : older.filter (fun g => !g.answered) = [] := List.filter_eq_nil_iff.mpr fun g hg => by simp [holder g hg]
  have hadded : ∀ o, o ≠ .inboxAnswer → (c.answerOldest f r).waiting o = c.waiting o := by
    intro o ho
    simp [LinkContext.answerOldest, LinkContext.waiting, LinkContext.send, answerTo, Ne.symm ho]
  rw [LinkContext.answerOldest_eq, hmark] at *
  refine ⟨?_, ?_, ?_, ?_, ?_, ?_, ?_, fun h => absurd hup h, ?_⟩
  · simpa [hinbox] using hdepth
  · simp [LinkContext.untaken, hfront, hbehind, hnewer, hnone]
  · rw [hinbox, List.filter_append, hfront, List.filter_cons_of_neg (by simp [hfalse]), hbehind, List.append_nil] at hanswers
    simp [hfront, hbehind, hanswers, answerTo]
  · rwa [hadded _ (by decide)]
  · rwa [hadded _ (by decide)]
  · rwa [hadded _ (by decide)]
  · simp
  · intro g hg
    rw [hinbox] at hadmitted
    rcases List.mem_append.mp hg with hg | hg
    · exact hadmitted g (List.mem_append_left _ hg)
    · rcases List.mem_cons.mp hg with rfl | hg
      · exact hadmitted f (by simp)
      · exact hadmitted g (by simp [hg])

/-- A sent answer leaves with the oldest answered frame, whose answer it is (R174). -/
theorem linkSafe_endTransmission (safe : LinkContext.Safe l c) : LinkContext.Safe l c.endTransmission := by
  have ⟨hdepth, hsplit, hanswers, hinterface, horders, hstation, _, hdown, hadmitted⟩ := safe
  unfold LinkContext.endTransmission
  split
  case h_2 => exact safe
  case h_3 => exact safe
  case h_1 f rest htransmitting hout =>
    have hfewer : ∀ p : OutFrame → Bool, (rest.filter p).length ≤ (c.outgoing.filter p).length := by
      intro p
      rw [hout]
      exact ((List.sublist_cons_self f rest).filter p).length_le
    have hstation' : l = .gauge ∨ l = .mover → (rest.filter fun f => f.origin == .order).length = 0 := by
      intro h
      have := hfewer fun f => f.origin == .order
      have := hstation h
      unfold LinkContext.waiting at this
      omega
    by_cases hf : f.origin = .inboxAnswer
    · cases hinbox : c.inbox.filter (fun g => g.answered) with
      | nil =>
        rw [hinbox, hout, List.filter_cons_of_pos (by simp [hf])] at hanswers
        cases hanswers
      | cons g older =>
        have hg : g.answered = true := by
          have : g ∈ c.inbox.filter (fun g => g.answered) := by rw [hinbox]; exact List.mem_cons_self
          exact (List.mem_filter.mp this).2
        rw [hinbox, hout, List.filter_cons_of_pos (by simp [hf]), List.map_cons, List.map_cons, List.cons.injEq] at hanswers
        have hinboxed : c.inbox = g :: (older ++ c.untaken) := by rw [hsplit, hinbox]; rfl
        have holder : older.filter (fun g => g.answered) = older := by
          rw [List.filter_eq_self]
          intro k hk
          have : k ∈ c.inbox.filter (fun g => g.answered) := by rw [hinbox]; exact List.mem_cons_of_mem _ hk
          exact (List.mem_filter.mp this).2
        have huntaken : ∀ k ∈ c.untaken, k.answered = false := fun k hk => by simpa using (List.mem_filter.mp hk).2
        have hgone : removeAnswered c.inbox = older ++ c.untaken := by rw [hinboxed, removeAnswered_cons g _ hg]
        have hanswered : (older ++ c.untaken).filter (fun g => g.answered) = older := by
          rw [List.filter_append, holder, List.filter_eq_nil_iff.mpr (fun k hk => by simp [huntaken k hk]), List.append_nil]
        have hleft : (older ++ c.untaken).filter (fun g => !g.answered) = c.untaken := by
          rw [List.filter_append, List.filter_eq_nil_iff.mpr (fun k hk => ?_), List.nil_append, List.filter_eq_self.mpr (fun k hk => ?_)]
          · simp [huntaken k hk]
          · rw [← holder] at hk
            simp [(List.mem_filter.mp hk).2]
        rw [hf, beq_self_eq_true, if_pos rfl, hgone]
        refine ⟨?_, ?_, ?_, (hfewer _).trans hinterface, (hfewer _).trans horders, hstation', nofun, ?_, ?_⟩
        · rw [hinboxed, List.length_cons] at hdepth
          exact Nat.le_of_succ_le hdepth
        · exact (congrArg₂ (· ++ ·) hanswered hleft).symm
        · exact (congrArg _ hanswered).trans hanswers.2
        · exact fun h => hleft.trans (hdown h)
        · exact fun k hk => hadmitted k (by rw [hinboxed]; exact List.mem_cons_of_mem _ hk)
    · rw [if_neg (by simpa using hf)]
      refine linkSafe_outgoing safe ?_ ((hfewer _).trans hinterface) ((hfewer _).trans horders) hstation' nofun
      rw [hout, List.filter_cons_of_neg (by simpa using hf)]

/-- A link's state may change where no frame waits to be taken, and to UP at any time (R166, R176). -/
theorem linkSafe_state {st : LinkState} {fault : FaultCause} (safe : LinkContext.Safe l c) (h : st ≠ .up → c.untaken = []) :
    LinkContext.Safe l { c with state := st, fault := fault } := by
  obtain ⟨hdepth, hsplit, hanswers, hinterface, horders, hstation, hsending, -, hadmitted⟩ := safe
  exact ⟨hdepth, hsplit, hanswers, hinterface, horders, hstation, hsending, h, hadmitted⟩

end

theorem linkSafe_afterReset (l : LinkId) : LinkContext.Safe l .afterReset :=
  ⟨by decide, rfl, rfl, by decide, by decide, fun _ => rfl, nofun, fun _ => rfl, nofun⟩

/-! ## The four links -/

theorem mem_allLinks (l : LinkId) : l ∈ allLinks := by cases l <;> decide

section
variable {s : State}

theorem linkSafe_of_linksSafe (safe : s.LinksSafe) (l : LinkId) : LinkContext.Safe l (s.link l) := safe.1 l (mem_allLinks l)

/-- A write of one link that keeps its laws, and whether it is DISABLED, keeps the laws of the links. -/
theorem linksSafe_setLink {l : LinkId} {c : LinkContext} (safe : s.LinksSafe) (own : LinkContext.Safe l c)
    (enabled : c.state = .disabled ↔ (s.link l).state = .disabled) : (s.setLink l c).LinksSafe := by
  obtain ⟨hlinks, henabled, hmode⟩ := safe
  refine ⟨fun q hq => ?_, fun q hq hb => ?_, fun hrun => ?_⟩
  · by_cases hql : q = l
    · rw [hql, State.link_setLink_same]
      exact own
    · rw [State.link_setLink_ne _ _ _ _ hql]
      exact hlinks q hq
  · by_cases hql : q = l
    · rw [hql, State.link_setLink_same, Ne, enabled, ← hql]
      exact henabled q hq hb
    · rw [State.link_setLink_ne _ _ _ _ hql]
      exact henabled q hq hb
  · rw [State.phase_setLink] at hrun
    rw [State.stationMode_setLink, ← hmode hrun]
    cases l with
    | stationB => exact enabled
    | gauge => exact Iff.rfl
    | stationA => exact Iff.rfl
    | mover => exact Iff.rfl

theorem linksSafe_order (safe : s.LinksSafe) (st : StationId) (o : Order) (n : Nat) : (s.sendOrder st o n).LinksSafe := by
  refine linksSafe_setLink safe (linkSafe_order (linkSafe_of_linksSafe safe _) (by cases st <;> decide) o n) ?_
  show ((s.link (stationLink st)).order o n).state = .disabled ↔ _
  rw [LinkContext.order_outgoing]

theorem linksSafe_interfaceAnswer (safe : s.LinksSafe) (l : LinkId) (f : CellFrame) (r : Reply) : (s.interfaceAnswer l f r).LinksSafe := by
  refine linksSafe_setLink safe (linkSafe_interfaceAnswer (linkSafe_of_linksSafe safe l) _ _ r) ?_
  obtain ⟨out, h⟩ := interfaceAnswer_outgoing (s.link l) f.kind (f.tag.setWidth 4) r
  show ((s.link l).interfaceAnswer f.kind (f.tag.setWidth 4) r).state = .disabled ↔ _
  rw [h]

theorem linksSafe_recordFault (safe : s.LinksSafe) (l : LinkId) (cause : FaultCause) : (s.recordFault l cause).LinksSafe := by
  have hsafe := linkSafe_of_linksSafe safe l
  have hset := linksSafe_setLink safe (linkSafe_state (st := (s.link l).state) (fault := cause) hsafe hsafe.2.2.2.2.2.2.2.1) Iff.rfl
  exact linksSafe_congr rfl rfl (fun _ => rfl) hset

theorem linksSafe_discardMalformed (safe : s.LinksSafe) (l : LinkId) : (s.discardMalformed l).LinksSafe := by
  unfold State.discardMalformed
  split
  · exact safe
  · exact linksSafe_recordFault safe l _

/-- A frame reaches the inbox of an UP link alone, with room in it, and when its role and length admit it (R170). -/
theorem admitted_of_disposition {l : LinkId} {f : CellFrame} {k : RequestKind} (h : s.disposition l f = .admitted k) :
    (s.link l).state = .up ∧ (s.link l).inbox.length < 4 ∧ l.admits k = true ∧ k.fits f.payload.length = true := by
  unfold State.disposition at h
  split_ifs at h
  split at h
  · cases h
  · rename_i j hj
    unfold admittedKind at hj
    split at hj
    · cases hj
    · split_ifs at hj with hadmits
      cases hj
      unfold LinkContext.dispose at h
      split_ifs at h with hfits hup _ hroom
      cases h
      exact ⟨by simpa using hup, Nat.lt_of_not_le hroom, hadmits, by simpa using hfits⟩

/-- HELLO is taken at its arrival on a link that is neither UP nor DISABLED (R170, R176). -/
theorem not_disabled_of_helloTaken {l : LinkId} {f : CellFrame} (h : s.disposition l f = .helloTaken) : (s.link l).state ≠ .disabled := by
  intro hdisabled
  unfold State.disposition at h
  simp only [hdisabled, beq_self_eq_true, if_true] at h
  split_ifs at h

theorem linksSafe_dispose (safe : s.LinksSafe) (l : LinkId) (f : CellFrame) : (s.dispose l f (s.disposition l f)).LinksSafe := by
  have hsafe := linkSafe_of_linksSafe safe l
  cases hd : s.disposition l f with
  | malformed => exact linksSafe_discardMalformed safe l
  | disabled => exact linksSafe_interfaceAnswer safe l f _
  | starting => exact linksSafe_interfaceAnswer safe l f _
  | unknown => exact linksSafe_interfaceAnswer (linksSafe_recordFault safe l _) l f _
  | helloTaken =>
    simp only [State.dispose, State.helloAtArrival]
    split
    · refine linksSafe_interfaceAnswer ?_ l f _
      have hset := linksSafe_setLink safe (linkSafe_state (st := .up) (fault := .none) hsafe fun h => absurd rfl h)
        ⟨nofun, fun h => absurd h (not_disabled_of_helloTaken hd)⟩
      exact linksSafe_congr rfl rfl (fun _ => rfl) hset
    · exact linksSafe_interfaceAnswer safe l f _
  | linkReset => exact linksSafe_interfaceAnswer safe l f _
  | inboxFull => exact linksSafe_interfaceAnswer (linksSafe_recordFault safe l _) l f _
  | admitted k =>
    obtain ⟨hup, hroom, hadmits, hfits⟩ := admitted_of_disposition hd
    exact linksSafe_setLink safe (linkSafe_receive hsafe hup hroom hadmits hfits) Iff.rfl

theorem linksSafe_countDown (safe : s.LinksSafe) (st : StationId) : (s.countDown st).LinksSafe := by
  rcases s.countDown_cases st with ⟨-, h⟩ | ⟨-, -, h⟩ | ⟨-, -, h⟩ <;> rw [h]
  · exact safe
  · refine linksSafe_order (linksSafe_congr (s := s) ?_ ?_ ?_ safe) st _ _
    all_goals
      unfold State.abandonRecord
      split <;> simp [State.modStation_eq, State.modRecord_eq]
  · exact linksSafe_congr (by simp) (by simp) (by simp) safe

end

/-! ## The moves -/

theorem link_flagStarts (s u : State) (q : LinkId) : (State.flagStarts s u).link q = u.link q := by
  rw [State.flagStarts_attention]
  cases q <;> rfl

theorem link_storeReport (s : State) (n : Nat) (m : Measurement) (serial : Option Nat) (q : LinkId) :
    (s.storeReport n m serial).link q = s.link q := by
  unfold State.storeReport State.storeSerial
  cases q <;> split <;> rfl

theorem link_holdFreed (s : State) (q : LinkId) : s.holdFreed.link q = s.link q := by
  rcases s.holdFreed_cases with ⟨-, -, -, h⟩ | ⟨-, h⟩ <;> rw [h]
  cases q <;> rfl

theorem link_releaseRecord (s : State) (st : StationId) (n : Nat) (q : LinkId) : (s.releaseRecord st n).link q = s.link q := by
  unfold State.releaseRecord
  simp only
  split
  · exact ((planFrame_unlist _ n).link q).trans (by simp [State.modStation_eq, State.modRecord_eq])
  · simp [State.modStation_eq, State.modRecord_eq]

theorem link_resetOwner (s : State) (l q : LinkId) : (s.resetOwner l).link q = s.link q := by
  have hstation : ∀ st, (s.resetStation st).link q = s.link q := by
    intro st
    unfold State.resetStation
    split
    · simp [State.modStation_eq]
    · rw [link_holdFreed]
      simp [State.modStation_eq, State.modRecord_eq]
  cases l
  · rfl
  · exact hstation .a
  · exact hstation .b
  · cases q <;> rfl

/-- No request changes a link, its answer apart. -/
theorem link_request {s u : State} {l : LinkId} (h : RequestEffect s l u) (q : LinkId) : u.link q = s.link q := by
  cases h
  case unchanged => rfl
  case reportRefused => cases q <;> rfl
  case reportConflict => cases q <;> rfl
  case report => exact ((planFrame_evaluateMeasured _ _).link q).trans (link_storeReport s _ _ _ q)
  case aligned => cases q <;> rfl
  case claim => exact ((planFrame_unlist _ _).link q).trans (by simp [State.modStation_eq, State.modRecord_eq])
  case grant => simp [State.modStation_eq]
  case startPass => simp [State.startPass, State.modStation_eq, State.modRecord_eq]
  case passDone =>
    exact ((planFrame_diameterTests _ _ _).link q).trans (by simp [State.endPass, State.modStation_eq, State.modRecord_eq])
  case verify =>
    exact ((planFrame_verifyRecord _ _ _).link q).trans (by simp [State.storeVerify, State.modStation_eq, State.modRecord_eq])
  case release => exact (link_holdFreed _ q).trans (link_releaseRecord s _ _ q)
  case cursor => simp [State.modStation_eq]

theorem linksSafe_setHold {s : State} (safe : s.LinksSafe) (st : StationId) (h : Hold) : (s.setHold st h).LinksSafe := by
  unfold State.setHold
  split
  · exact safe
  · exact linksSafe_congr rfl rfl (fun _ => rfl) safe

theorem linksSafe_of_plan {s t : State} (h : PlanFrame s t) (safe : s.LinksSafe) : t.LinksSafe :=
  linksSafe_congr h.phase h.stationMode h.link safe

theorem linksSafe_host {s u : State} (safe : s.LinksSafe) (h : HostEffect s u) : u.LinksSafe := by
  cases h
  case unchanged => exact safe
  case acknowledge mask =>
    have hlink : ∀ q, (s.acknowledgeMask mask).link q = s.link q := by
      unfold State.acknowledgeMask
      generalize allSources = ks
      induction ks generalizing s with
      | nil => exact fun _ => rfl
      | cons k rest ih =>
        intro q
        refine (ih (s := if maskNames mask k then s.acknowledge k else s) ?_ q).trans ?_
        · split <;> exact safe
        · split <;> cases q <;> rfl
    exact linksSafe_congr (WorkFrame.acknowledgeMask s mask).phase (WorkFrame.acknowledgeMask s mask).stationMode hlink safe
  case program => exact safe
  case replan => exact linksSafe_of_plan (planFrame_evaluateMeasured _ _) safe
  case accept => exact linksSafe_of_plan (planFrame_acceptDeviation _ _) safe
  case condemn => exact linksSafe_of_plan (planFrame_condemn _ _ _) safe
  case openVisit => exact safe
  case load => exact safe
  case window => exact safe
  case close => exact safe
  case halt st _ _ =>
    refine linksSafe_order (linksSafe_setHold (linksSafe_congr (s := s) ?_ ?_ ?_ safe) st _) st _ _ <;> simp [State.modStation_eq]
  case resume st _ _ =>
    refine linksSafe_order (linksSafe_setHold (linksSafe_congr (s := s) ?_ ?_ ?_ safe) st _) st _ _ <;> simp [State.modStation_eq]
  case resetLink l henabled =>
    have hframe := WorkFrame.resetOwner (s.modLink l LinkContext.flush) l
    exact linksSafe_congr hframe.phase hframe.stationMode (link_resetOwner _ l)
      (linksSafe_setLink safe (linkSafe_flush (linkSafe_of_linksSafe safe l)) ⟨nofun, fun h => absurd h henabled⟩)
  case openCatalogue => exact safe
  case closeCatalogue => exact safe
  case stage => exact safe
  case commit => exact safe
  case abort => exact safe

/-- STARTING leaves the links' states as the strap wants them (R166). -/
theorem linksSafe_startUp {s : State} (quiet : s.QuietSafe) (safe : s.LinksSafe) (hp : s.phase = .starting) : s.endStartUp.LinksSafe := by
  have hlink : ∀ q, s.endStartUp.link q = s.link q := fun q => by rw [endStartUp_eq]; split <;> cases q <;> rfl
  have hmode : s.endStartUp.stationMode = s.stationMode := by rw [endStartUp_eq]; split <;> rfl
  obtain ⟨hlinks, henabled, -⟩ := safe
  refine ⟨fun q hq => (hlink q).symm ▸ hlinks q hq, fun q hq hb => (hlink q).symm ▸ henabled q hq hb, fun _ => ?_⟩
  have hB : s.endStartUp.linkB = s.linkB := hlink .stationB
  have hstate : s.linkB.state = linkBState s.stationMode := by
    conv_lhs => rw [quiet.2 hp]
    rfl
  rw [hB, hmode, hstate]
  cases s.stationMode <;> decide

/-- Every move of a safe part keeps the laws of the links. -/
theorem linksSafe_move {s t : State} (safe : s.Safe) (h : Move s t) : t.LinksSafe := by
  obtain ⟨quiet, links, -⟩ := safe
  cases h
  case idle => exact links
  case window => exact links
  case reset =>
    refine ⟨fun q _ => ?_, fun q _ _ => ?_, nofun⟩
    · cases q <;> exact linkSafe_afterReset _
    · cases q <;> exact nofun
  case resetEnd strap hreset =>
    obtain ⟨hlinks, henabled, -⟩ := links
    refine ⟨fun q hq => ?_, fun q hq hb => ?_, nofun⟩
    · have hsafe := hlinks q hq
      cases q
      case stationB =>
        have hreset' : s.linkB = LinkContext.afterReset := link_of_reset quiet hreset .stationB
        exact linkSafe_state (c := s.linkB) (fault := s.linkB.fault) hsafe fun _ => by rw [hreset']; rfl
      all_goals exact hsafe
    · cases q
      case stationB => exact absurd rfl hb
      all_goals exact henabled _ hq hb
  case startUp hp => exact linksSafe_startUp quiet links hp
  case level => exact links
  case rise =>
    refine linksSafe_congr (s := s) ?_ ?_ ?_ links
    · exact (LinkFrame.flagStarts s _).phase.trans (phase_takeRise _)
    · refine (LinkFrame.flagStarts s _).stationMode.trans ?_
      unfold State.takeRise
      split <;> rfl
    · intro q
      rw [State.flagStarts_attention]
      unfold State.takeRise
      cases q <;> split <;> rfl
  case fall => exact links
  case pulse st => exact linksSafe_countDown links st
  case tick => exact linksSafe_countDown (linksSafe_countDown links .a) .b
  case written =>
    unfold State.completeWrite
    split <;> exact links
  case arrival l f _ => exact linksSafe_dispose links l f
  case discard l _ => exact linksSafe_discardMalformed links l
  case sending l =>
    refine linksSafe_setLink links (linkSafe_startTransmission (linkSafe_of_linksSafe links l)) ?_
    rw [startTransmission_eq]
  case sent l =>
    refine linksSafe_setLink links (linkSafe_endTransmission (linkSafe_of_linksSafe links l)) ?_
    unfold LinkContext.endTransmission
    split <;> rfl
  case host i r u _ heffect =>
    have hframe := LinkFrame.flagStarts s u
    have hflags := linksSafe_congr hframe.phase hframe.stationMode (link_flagStarts s u) (linksSafe_host links heffect)
    exact hflags
  case request l k f r u htake heffect =>
    obtain ⟨hup, holdest, -⟩ := nextRequest_some htake
    have hlink : ∀ q, (State.flagStarts s u).link q = s.link q := fun q => (link_flagStarts s u q).trans (link_request heffect q)
    have hframe := (workFrame_request heffect).trans (workFrame_flagStarts s u)
    refine linksSafe_setLink (linksSafe_congr hframe.phase hframe.stationMode hlink links) ?_ Iff.rfl
    rw [hlink l]
    exact linkSafe_answerOldest (linkSafe_of_linksSafe links l) holdest hup r

end Sys2Proof.Machine

namespace Sys2Proof.Claims
open Sys2Proof.Machine

/-- Settles O53: the links change by orders, answers, arrivals, transmissions and RESET LINK alone, each a rule of one link. -/
theorem stepKeepsLinks : Obligations.StepKeepsLinks :=
  fun _ _ safe h => step_keeps (fun _ _ => linksSafe_move) safe h

end Sys2Proof.Claims
end

section
/-! PROOFS. What an evaluation does to the records: its four outcomes, what every record keeps, and how each law of the step is fed by them
(R54 to R65). -/
namespace Sys2Proof.Machine

/-! ## The outcomes -/

/-- The four ways an evaluation ends (R55, R56, R62, R65). -/
theorem evaluate_cases (s : State) (n : Nat) (h : Handed) :
    ((s.record n).stage = .condemned ∧ s.evaluate n h = s)
      ∨ ((s.record n).stage ≠ .condemned ∧ s.evaluate n h = s.condemn n .ownWear)
      ∨ (∃ o, (s.record n).stage ≠ .condemned
          ∧ s.chosenObstacle n h (s.candidate n h.ownNeed) (s.lowerings n (s.candidate n h.ownNeed)) = some o
          ∧ s.evaluate n h = s.block n (s.candidate n h.ownNeed) o)
      ∨ ((s.record n).stage ≠ .condemned
          ∧ s.chosenObstacle n h (s.candidate n h.ownNeed) (s.lowerings n (s.candidate n h.ownNeed)) = none
          ∧ s.evaluate n h = s.applyEvaluation n h (s.candidate n h.ownNeed) (s.lowerings n (s.candidate n h.ownNeed))) := by
  by_cases hc : (s.record n).stage = .condemned
  · exact .inl ⟨hc, evaluate_of_condemned hc⟩
  · by_cases hwear : h.exempt = false ∧ h.ownNeed < condemnDiameter s.limits (s.record n).cls
    · exact .inr (.inl ⟨hc, evaluate_of_ownWear hc hwear.1 hwear.2⟩)
    · have hneed : h.exempt = true ∨ condemnDiameter s.limits (s.record n).cls ≤ h.ownNeed := by
        by_cases hx : h.exempt = true
        · exact .inl hx
        · exact .inr (Nat.le_of_not_lt fun hlt => hwear ⟨by simpa using hx, hlt⟩)
      rw [evaluate_of_plan hc hneed]
      cases ho : s.chosenObstacle n h (s.candidate n h.ownNeed) (s.lowerings n (s.candidate n h.ownNeed)) with
      | some o => exact .inr (.inr (.inl ⟨o, hc, rfl, plan_of_obstacle ho⟩))
      | none => exact .inr (.inr (.inr ⟨hc, rfl, plan_of_no_obstacle ho⟩))

/-- A record after an applied evaluation is the subject applied, a member lowered, or as it was (R63, R65). -/
theorem record_applyEvaluation_cases {s : State} {n t : Nat} (h : Handed) (safe : s.GroupsSafe) (h1 : 1 ≤ n) (h64 : n ≤ 64) (m : Nat) :
    (m = n ∧ (s.applyEvaluation n h t (s.lowerings n t)).record m = (s.record n).applied s.limits h t)
      ∨ (m ≠ n ∧ (s.applyEvaluation n h t (s.lowerings n t)).record m = s.record m)
      ∨ (m ≠ n ∧ ∃ l ∈ s.lowerings n t, l.ordinal = m
          ∧ (s.applyEvaluation n h t (s.lowerings n t)).record m = (s.record m).lowered s.limits l.target) := by
  rw [record_applyEvaluation, record_applyRecords h h1 h64 (lowerings_ascend safe n t)]
  by_cases hm : m = n
  · exact .inl ⟨hm, if_pos hm⟩
  · rw [if_neg hm]
    cases hfind : (s.lowerings n t).find? (fun l => l.ordinal == m) with
    | none => exact .inr (.inl ⟨hm, rfl⟩)
    | some l =>
      obtain ⟨hl, hlm⟩ := (find_lowering_iff (lowerings_ascend safe n t) m l).mp hfind
      exact .inr (.inr ⟨hm, l, hl, hlm, rfl⟩)

/-! ## What planning leaves of a record -/

/-- The fields of a record that planning only reads (R54). -/
structure Record.PlanKept (r r' : Record) : Prop where
  position : r'.position = r.position
  hold : r'.hold = r.hold
  holder : r'.holder = r.holder
  serial : r'.serial = r.serial
  measured : r'.measured = r.measured
  doubtful : r'.doubtful = r.doubtful
  ownNeed : r'.ownNeed = r.ownNeed
  waived : r'.waived = r.waived

namespace Record.PlanKept

theorem refl (r : Record) : r.PlanKept r := ⟨rfl, rfl, rfl, rfl, rfl, rfl, rfl, rfl⟩

theorem trans {r r' r'' : Record} (h : r.PlanKept r') (k : r'.PlanKept r'') : r.PlanKept r'' :=
  ⟨k.position.trans h.position, k.hold.trans h.hold, k.holder.trans h.holder, k.serial.trans h.serial, k.measured.trans h.measured,
    k.doubtful.trans h.doubtful, k.ownNeed.trans h.ownNeed, k.waived.trans h.waived⟩

theorem applied (v : LimitValues) (r : Record) (h : Handed) (t : Nat) : r.PlanKept (r.applied v h t) := by
  rw [Record.applied_eq]
  exact ⟨rfl, rfl, rfl, rfl, rfl, rfl, rfl, rfl⟩

theorem lowered (v : LimitValues) (r : Record) (t : Nat) : r.PlanKept (r.lowered v t) := by
  cases h : wouldReopen v r t with
  | true => rw [Record.lowered_of_reopens h]; exact ⟨rfl, rfl, rfl, rfl, rfl, rfl, rfl, rfl⟩
  | false => rw [Record.lowered_of_stands h]; exact ⟨rfl, rfl, rfl, rfl, rfl, rfl, rfl, rfl⟩

/-- A write of one record that keeps these fields keeps them in every record. -/
theorem modRecord (s : State) (n m : Nat) {f : Record → Record} (hf : ∀ r : Record, r.PlanKept (f r)) :
    (s.record m).PlanKept ((s.modRecord n f).record m) := by
  rw [State.record_modRecord]
  split
  · rename_i h
    rw [h.1]
    exact hf _
  · exact refl _

theorem lowerAll (s : State) (v : LimitValues) (ls : List Lowering) (m : Nat) : (s.record m).PlanKept ((s.lowerAll v ls).record m) := by
  induction ls generalizing s with
  | nil => exact refl _
  | cons l rest ih => exact (modRecord s l.ordinal m fun r => lowered v r l.target).trans (ih _)

theorem condemn (s : State) (n m : Nat) (c : CondemnCause) : (s.record m).PlanKept ((s.condemn n c).record m) := by
  rw [record_condemn]
  split
  · rename_i h
    rw [h.1]
    exact ⟨rfl, rfl, rfl, rfl, rfl, rfl, rfl, rfl⟩
  · exact refl _

theorem applyEvaluation (s : State) (n d m : Nat) (h : Handed) (ls : List Lowering) :
    (s.record m).PlanKept ((s.applyEvaluation n h d ls).record m) := by
  rw [record_applyEvaluation, State.applyRecords_eq]
  exact (lowerAll s _ _ m).trans (modRecord _ n m fun r => applied _ r h _)

theorem evaluate (s : State) (n m : Nat) (h : Handed) : (s.record m).PlanKept ((s.evaluate n h).record m) := by
  rcases evaluate_cases s n h with ⟨-, he⟩ | ⟨-, he⟩ | ⟨o, -, -, he⟩ | ⟨-, -, he⟩ <;> rw [he]
  · exact refl _
  · exact condemn s n m _
  · rw [record_block]
    split
    · rename_i hm
      rw [hm.1]
      exact ⟨rfl, rfl, rfl, rfl, rfl, rfl, rfl, rfl⟩
    · exact refl _
  · exact applyEvaluation s n _ m h _

end Record.PlanKept

/-! ## What is written before an evaluation, and after it -/

/-- The fields of a record that the laws of holds, groups and lists read and a measurement leaves (R31, R105, R140). -/
structure Record.CourseKept (r r' : Record) : Prop where
  position : r'.position = r.position
  stage : r'.stage = r.stage
  hold : r'.hold = r.hold
  holder : r'.holder = r.holder
  target : r'.target = r.target
  blocked : r'.blocked = r.blocked
  passesDone : r'.passesDone = r.passesDone
  reopenCount : r'.reopenCount = r.reopenCount
  verified : r'.verified = r.verified
  waived : r'.waived = r.waived
  condemnCause : r'.condemnCause = r.condemnCause
  doubtful : r'.doubtful = true → r.doubtful = true

namespace Record.CourseKept

theorem refl (r : Record) : r.CourseKept r := ⟨rfl, rfl, rfl, rfl, rfl, rfl, rfl, rfl, rfl, rfl, rfl, id⟩

theorem trans {r r' r'' : Record} (h : r.CourseKept r') (k : r'.CourseKept r'') : r.CourseKept r'' :=
  ⟨k.position.trans h.position, k.stage.trans h.stage, k.hold.trans h.hold, k.holder.trans h.holder, k.target.trans h.target,
    k.blocked.trans h.blocked, k.passesDone.trans h.passesDone, k.reopenCount.trans h.reopenCount, k.verified.trans h.verified,
    k.waived.trans h.waived, k.condemnCause.trans h.condemnCause, fun hd => h.doubtful (k.doubtful hd)⟩

theorem counted {r r' : Record} (h : r.CourseKept r') : r'.counted = r.counted := by
  simp only [Record.counted, h.stage, h.waived, h.target]

theorem profile {r r' : Record} (h : r.CourseKept r') : r'.profile = r.profile := by
  simp only [Record.profile, h.position]

theorem modRecord (s : State) (n m : Nat) {f : Record → Record} (hf : ∀ r : Record, r.CourseKept (f r)) :
    (s.record m).CourseKept ((s.modRecord n f).record m) := by
  rw [State.record_modRecord]
  split
  · rename_i h
    rw [h.1]
    exact hf _
  · exact refl _

theorem writeAssessment (s : State) (n m : Nat) (a : Assessment) : (s.record m).CourseKept ((s.writeAssessment n a).record m) :=
  modRecord s n m fun _ => ⟨rfl, rfl, rfl, rfl, rfl, rfl, rfl, rfl, rfl, rfl, rfl, id⟩

theorem storeSerial (s : State) (n m : Nat) (serial : Option Nat) : (s.record m).CourseKept ((s.storeSerial n serial).record m) := by
  unfold State.storeSerial
  split
  · rename_i c _
    exact modRecord s n m (f := fun r => { r with serial := some c })
      fun _ => ⟨rfl, rfl, rfl, rfl, rfl, rfl, rfl, rfl, rfl, rfl, rfl, id⟩
  · exact refl _
  · exact refl _

theorem storeReport (s : State) (n m : Nat) (b : Measurement) (serial : Option Nat) :
    (s.record m).CourseKept ((s.storeReport n b serial).record m) :=
  (storeSerial s n m serial).trans (modRecord (s.storeSerial n serial) n m
    (f := fun r => { r with measured := some { block := b, source := .gauge }, doubtful := false })
    fun _ => ⟨rfl, rfl, rfl, rfl, rfl, rfl, rfl, rfl, rfl, rfl, rfl, nofun⟩)

theorem storeVerify (s : State) (st : StationId) (n m : Nat) (b : Measurement) :
    (s.record m).CourseKept ((s.storeVerify st n b).record m) := by
  have hwrite := modRecord (s.modStation st fun c => { c with grant := none }) n m
    (f := fun r => { r with measured := some { block := b, source := stationSource st }, doubtful := false })
    fun _ => ⟨rfl, rfl, rfl, rfl, rfl, rfl, rfl, rfl, rfl, rfl, rfl, nofun⟩
  rwa [State.modStation_eq, State.record_setStation] at hwrite

end Record.CourseKept

end Sys2Proof.Machine
end

section
/-! PROOFS. The moves as the record table sees them: its records, lists and groups, the visit and the working limits. A law of the table alone
is kept by every step once it is kept by these. -/
namespace Sys2Proof.Machine

/-! ## What leaves the table as it is -/

/-- `t` has the records, lists, groups, visit and working limits of `s`. -/
structure TableFrame (s t : State) : Prop where
  records : t.records = s.records
  reopenList : t.reopenList = s.reopenList
  serialMap : t.serialMap = s.serialMap
  bogieGroups : t.bogieGroups = s.bogieGroups
  carGroups : t.carGroups = s.carGroups
  visit : t.visit = s.visit
  limits : t.limits = s.limits

namespace TableFrame

theorem refl (s : State) : TableFrame s s := ⟨rfl, rfl, rfl, rfl, rfl, rfl, rfl⟩

theorem trans {s t u : State} (h : TableFrame s t) (k : TableFrame t u) : TableFrame s u :=
  ⟨k.records.trans h.records, k.reopenList.trans h.reopenList, k.serialMap.trans h.serialMap, k.bogieGroups.trans h.bogieGroups,
    k.carGroups.trans h.carGroups, k.visit.trans h.visit, k.limits.trans h.limits⟩

theorem record {s t : State} (h : TableFrame s t) (n : Nat) : t.record n = s.record n := record_congr h.records n

theorem of_link {s t : State} (h : LinkFrame s t) : TableFrame s t :=
  ⟨h.records, h.reopenList, h.serialMap, h.bogieGroups, h.carGroups, h.visit, h.limits⟩

theorem setStation (s : State) (st : StationId) (c : StationContext) : TableFrame s (s.setStation st c) := by
  constructor <;> simp

theorem setLink (s : State) (l : LinkId) (c : LinkContext) : TableFrame s (s.setLink l c) := of_link (.setLink s l c)

theorem flag (s : State) (k : Source) : TableFrame s (s.flag k) := of_link (.flag s k)

theorem acknowledgeMask (s : State) (mask : Nat) : TableFrame s (s.acknowledgeMask mask) := by
  unfold State.acknowledgeMask
  generalize allSources = ks
  induction ks generalizing s with
  | nil => exact refl s
  | cons k rest ih =>
    refine trans (t := if maskNames mask k then s.acknowledge k else s) ?_ (ih _)
    split
    · exact ⟨rfl, rfl, rfl, rfl, rfl, rfl, rfl⟩
    · exact refl s

theorem holdFreed (s : State) : TableFrame s s.holdFreed := by
  rcases s.holdFreed_cases with ⟨-, -, -, h⟩ | ⟨-, h⟩ <;> rw [h]
  · exact ⟨rfl, rfl, rfl, rfl, rfl, rfl, rfl⟩
  · exact refl s

theorem takeRise (s : State) : TableFrame s s.takeRise := by
  unfold State.takeRise
  split
  · exact ⟨rfl, rfl, rfl, rfl, rfl, rfl, rfl⟩
  · exact ⟨rfl, rfl, rfl, rfl, rfl, rfl, rfl⟩

theorem sendOrder (s : State) (st : StationId) (o : Order) (n : Nat) : TableFrame s ((s.flag .passOverrun).sendOrder st o n) :=
  (flag s _).trans (setLink _ _ _)

/-- The answer to a host command and the flags before it. -/
theorem command (s u : State) (i : Instr) (r : Reply) : TableFrame u ((State.flagStarts s u).answerCommand i r) :=
  (of_link (.flagStarts s u)).trans ⟨rfl, rfl, rfl, rfl, rfl, rfl, rfl⟩

theorem answer (s u : State) (l : LinkId) (f : InboxFrame) (r : Reply) : TableFrame u ((State.flagStarts s u).answerInbox l f r) :=
  of_link (.answer s u l f r)

end TableFrame

/-! ## The moves of the table -/

/-- A record of which the hold's fields alone were written, while it was held (R20, R23, R124, R133, R135, R136). -/
structure Record.HoldWritten (r r' : Record) : Prop where
  held : r.hold ≠ .free
  written : r' = { r with hold := r'.hold, holder := r'.holder, doubtful := r'.doubtful, verified := r'.verified }

/-- What one move does to the table. -/
inductive TableMove (s t : State) : Prop where
  | same (h : TableFrame s t)
  | limits (hno : s.visit = .noVisit) (h : TableFrame { s with limits := t.limits } t)
  | cleared (records : ∀ m, t.record m = Record.vacant) (reopenList : t.reopenList = []) (serialMap : t.serialMap = [])
      (bogieGroups : t.bogieGroups = []) (carGroups : t.carGroups = []) (visit : t.visit = .noVisit)
  | opened (id : VisitIdentity) (hno : s.visit = .noVisit) (hnumber : id.number ≠ 0) (htext : id.trainCode.all textChar = true)
      (h : TableFrame { s with visit := .opened id } t)
  | load (id : VisitIdentity) (cars : List Car) (hopen : s.visit = .opened id) (h1 : 1 ≤ cars.length)
      (h16 : cars.length ≤ Config.maxCars) (h : TableFrame (s.load id cars) t)
  | report (n : Nat) (m : Measurement) (serial : Option Nat) (h1 : 1 ≤ n) (hn : n ≤ s.recordCount) (hfree : (s.record n).hold = .free)
      (hstage : (s.record n).stage ≠ .condemned) (hrange : m.inRange = true) (hserial : serial ≠ some 0)
      (hnew : serialDuplicate s.serialMap serial n = none) (h : TableFrame ((s.storeReport n m serial).evaluateMeasured n) t)
  | replan (n : Nat) (h1 : 1 ≤ n) (h64 : n ≤ 64) (hstage : (s.record n).stage.rulable = true) (hfree : (s.record n).hold = .free)
      (h : TableFrame (s.evaluateMeasured n) t)
  | accept (n : Nat) (h1 : 1 ≤ n) (h64 : n ≤ 64) (hstage : (s.record n).stage = .blocked) (hfree : (s.record n).hold = .free)
      (h : TableFrame (s.acceptDeviation n) t)
  | condemn (n : Nat) (h1 : 1 ≤ n) (h64 : n ≤ 64) (hstage : (s.record n).stage.rulable = true) (hfree : (s.record n).hold = .free)
      (h : TableFrame (s.condemn n .ruling) t)
  | holds (hrecords : ∀ m, t.record m = s.record m ∨ (s.record m).HoldWritten (t.record m))
      (h : TableFrame { s with records := t.records } t)
  | claim (st : StationId) (n : Nat) (h1 : 1 ≤ n) (hn : n ≤ s.recordCount) (hfree : (s.record n).hold = .free)
      (hstage : (s.record n).stage = .planned) (h : TableFrame (s.claim st n) t)
  | passDone (st : StationId) (n left right : Nat) (hheld : (s.station st).held = some n) (hpass : (s.station st).passInFlight = true)
      (hleft : diameterInRange left = true) (hright : diameterInRange right = true)
      (h : TableFrame ((s.endPass st n left right).diameterTests n (min left right)) t)
  | verify (st : StationId) (n : Nat) (m : Measurement) (hheld : (s.station st).held = some n)
      (hidle : (s.station st).passInFlight = false) (hrange : m.inRange = true)
      (h : TableFrame ((s.storeVerify st n m).verifyRecord n m) t)
  | release (st : StationId) (n : Nat) (hheld : (s.station st).held = some n) (h : TableFrame (s.releaseRecord st n) t)

/-! ## A record that is held, and one that is not -/

section
variable {s : State}

/-- A station context never stands for a free record (R116). -/
theorem StationContext.hold_ne_free (c : StationContext) : c.hold ≠ .free := by
  unfold StationContext.hold
  split <;> decide

theorem hold_ne_free_of_held (holds : s.HoldsSafe) {st : StationId} {n : Nat} (h : (s.station st).held = some n) :
    (s.record n).hold ≠ .free := by
  rw [(heldRecord_of_holdsSafe holds h).hold]
  exact StationContext.hold_ne_free _

/-- A held record is held by a station (R15, R20). -/
theorem exists_holder (holds : s.HoldsSafe) {n : Nat} (h : (s.record n).hold ≠ .free) : ∃ st, (s.station st).held = some n := by
  have hrange : 1 ≤ n ∧ n ≤ 64 := by
    by_contra hout
    rw [State.record_outside s n hout] at h
    exact h rfl
  obtain ⟨hfree, hheld, -, -⟩ := holdSafe_of_holdsSafe holds hrange.1 hrange.2
  cases hq : (s.record n).holder with
  | none => exact absurd (hfree.mpr hq) h
  | some st => exact ⟨st, hheld st hq⟩

theorem recordCount_le (records : s.RecordsSafe) : s.recordCount ≤ 64 := by
  have := records.2.1
  simp only [State.recordCount, Config.maxCars] at *
  omega

/-- The record under the gauge is not held: no two fields of the alignment table name one ordinal (R159). -/
theorem free_of_gauge (holds : s.HoldsSafe) (motion : s.MotionSafe) {n : Nat} (h : s.alignment.gauge = some n) : (s.record n).hold = .free := by
  by_contra hheld
  obtain ⟨st, hst⟩ := exists_holder holds hheld
  have haligned := (heldRecord_of_holdsSafe holds hst).aligned
  obtain ⟨-, -, -, hnodup, -⟩ := motion
  rw [Alignment.present, h, List.append_assoc, Option.toList_some, List.singleton_append, List.nodup_cons] at hnodup
  refine hnodup.1 (List.mem_append.mpr ?_)
  cases st
  · exact .inl (by rw [show s.alignment.stationA = some n from haligned]; exact List.mem_singleton_self n)
  · exact .inr (by rw [show s.alignment.stationB = some n from haligned]; exact List.mem_singleton_self n)

/-- The record aligned at a station that holds nothing is not held (R159). -/
theorem free_of_alignedAt (holds : s.HoldsSafe) (motion : s.MotionSafe) {st : StationId} {n : Nat} (h : s.alignedAt st = some n)
    (hnone : (s.station st).held = none) : (s.record n).hold = .free := by
  by_contra hheld
  obtain ⟨q, hq⟩ := exists_holder holds hheld
  have haligned := (heldRecord_of_holdsSafe holds hq).aligned
  have hboth : s.alignment.stationA = some n ∧ s.alignment.stationB = some n := by
    cases st <;> cases q
    · rw [hnone] at hq; cases hq
    · exact ⟨h, haligned⟩
    · exact ⟨haligned, h⟩
    · rw [hnone] at hq; cases hq
  obtain ⟨-, -, -, hnodup, -⟩ := motion
  rw [Alignment.present, hboth.1, hboth.2, List.append_assoc] at hnodup
  have hpair := (List.nodup_append.mp hnodup).2.1
  simp at hpair

theorem mem_present_of_alignedAt {st : StationId} {n : Nat} (h : s.alignedAt st = some n) : n ∈ s.alignment.present := by
  unfold Alignment.present
  cases st
  · simp [show s.alignment.stationA = some n from h]
  · simp [show s.alignment.stationB = some n from h]

end

/-! ## The move of the table that a move makes -/

section
variable {s : State}

/-- A write of the hold's fields of the record a station holds, whatever else the station's context becomes. -/
theorem holdWritten_modRecord (holds : s.HoldsSafe) {st : StationId} {n : Nat} (hheld : (s.station st).held = some n) {f : Record → Record}
    (hf : ∀ r, f r = { r with hold := (f r).hold, holder := (f r).holder, doubtful := (f r).doubtful, verified := (f r).verified })
    {t : State} (ht : ∀ m, t.record m = (s.modRecord n f).record m) (m : Nat) :
    t.record m = s.record m ∨ (s.record m).HoldWritten (t.record m) := by
  rw [ht, State.record_modRecord]
  split
  · rename_i h
    rw [h.1]
    exact .inr ⟨hold_ne_free_of_held holds hheld, hf _⟩
  · exact .inl rfl

theorem tableFrame_setHold (s : State) (st : StationId) (h : Hold) : TableFrame { s with records := (s.setHold st h).records } (s.setHold st h) := by
  unfold State.setHold
  split <;> exact ⟨rfl, rfl, rfl, rfl, rfl, rfl, rfl⟩

/-- An order to a station and the write of its held record's hold (R135, R136). -/
theorem tableMove_setHold (holds : s.HoldsSafe) (st : StationId) {f : StationContext → StationContext}
    (hf : (f (s.station st)).held = (s.station st).held) (h : Hold) (l : LinkId) (c : LinkContext) :
    TableMove s (((s.modStation st f).setHold st h).setLink l c) := by
  have hstation : ((s.modStation st f).station st).held = (s.station st).held := by rw [State.modStation_eq, State.station_setStation_same, hf]
  cases hheld : (s.station st).held with
  | none =>
    have hnone : (s.modStation st f).setHold st h = s.modStation st f := by simp only [State.setHold, hstation, hheld]
    rw [hnone]
    exact .same ((TableFrame.setStation s st _).trans (.setLink _ l c))
  | some n =>
    have hsome : (s.modStation st f).setHold st h = (s.modStation st f).modRecord n fun r => { r with hold := h } := by
      simp only [State.setHold, hstation, hheld]
    rw [hsome]
    refine .holds (holdWritten_modRecord holds hheld (f := fun r => { r with hold := h }) (fun _ => rfl) fun m => ?_) ?_
    · simp [State.modStation_eq, State.modRecord_eq, State.record_setRecord]
    · constructor <;> simp [State.modStation_eq, State.modRecord_eq]

/-- A station link's reset frees what the station held (R146). -/
theorem tableMove_resetStation (holds : s.HoldsSafe) (l : LinkId) (c : LinkContext) (st : StationId) :
    TableMove s ((s.setLink l c).resetStation st) := by
  have hstation : (s.setLink l c).station st = s.station st := State.station_setLink ..
  unfold State.resetStation
  rw [hstation]
  split
  · exact .same ((TableFrame.setLink s l c).trans (.setStation _ st _))
  · rename_i n hheld
    have hframe := TableFrame.holdFreed (((s.setLink l c).modStation st StationContext.linkReset).modRecord n Record.freedByReset)
    refine .holds (holdWritten_modRecord holds hheld (f := Record.freedByReset) (fun _ => rfl) fun m => ?_) ?_
    · rw [hframe.record]
      simp [State.modStation_eq, State.modRecord_eq, State.record_setRecord]
    · refine ⟨rfl, hframe.reopenList.trans ?_, hframe.serialMap.trans ?_, hframe.bogieGroups.trans ?_, hframe.carGroups.trans ?_,
        hframe.visit.trans ?_, hframe.limits.trans ?_⟩ <;> simp [State.modStation_eq, State.modRecord_eq]

theorem tableMove_resetLink (holds : s.HoldsSafe) (l : LinkId) : TableMove s ((s.modLink l LinkContext.flush).resetOwner l) := by
  cases l
  · exact .same (TableFrame.setLink s .gauge _)
  · exact tableMove_resetStation holds _ _ .a
  · exact tableMove_resetStation holds _ _ .b
  · exact .same ((TableFrame.setLink s _ _).trans ⟨rfl, rfl, rfl, rfl, rfl, rfl, rfl⟩)

/-! ## The watches -/

/-- A station holds what it held when its watch has been counted (R133). -/
theorem held_countDown (s : State) (st q : StationId) : ((s.countDown st).station q).held = (s.station q).held := by
  have hset : ∀ c : StationContext, ∀ u : State, u.station = s.station → c.held = (s.station st).held →
      ((u.setStation st c).station q).held = (s.station q).held := by
    intro c u hu hc
    by_cases hq : q = st
    · rw [hq, State.station_setStation_same, hc]
    · rw [State.station_setStation_ne _ _ _ _ hq, hu]
  have habandoned : (s.abandonRecord st).station = s.station := by
    unfold State.abandonRecord
    split <;> rfl
  rcases s.countDown_cases st with ⟨-, h⟩ | ⟨-, -, h⟩ | ⟨-, -, h⟩ <;> rw [h]
  · exact (congrArg StationContext.held (State.station_setLink ..)).trans (hset _ _ habandoned (by rw [habandoned]; rfl))
  · exact hset _ s rfl rfl

/-- An expiry writes the held record alone, and leaves it CLAMPED (R133). -/
theorem record_countDown {s : State} {st : StationId} (hheld : ∀ n, (s.station st).held = some n → (s.record n).hold ≠ .free) (m : Nat) :
    (s.countDown st).record m = s.record m
      ∨ ((s.record m).HoldWritten ((s.countDown st).record m) ∧ ((s.countDown st).record m).hold ≠ .free) := by
  rcases s.countDown_cases st with ⟨-, h⟩ | ⟨-, -, h⟩ | ⟨-, -, h⟩ <;> rw [h]
  · exact .inl rfl
  · have hrecord : (s.expire st).record m = (s.abandonRecord st).record m := by
      simp [State.expire, State.sendOrder, State.modLink_eq, State.modStation_eq]
    rw [hrecord]
    unfold State.abandonRecord
    split
    · exact .inl rfl
    · rename_i n hn
      rw [State.record_modRecord]
      split
      · rename_i hm
        rw [hm.1]
        exact .inr ⟨⟨hheld n hn, rfl⟩, Hold.noConfusion⟩
      · exact .inl rfl
  · exact .inl (State.record_setStation ..)

theorem tableFrame_countDown (s : State) (st : StationId) : TableFrame { s with records := (s.countDown st).records } (s.countDown st) := by
  rcases s.countDown_cases st with ⟨-, h⟩ | ⟨-, -, h⟩ | ⟨-, -, h⟩ <;> rw [h]
  · exact ⟨rfl, rfl, rfl, rfl, rfl, rfl, rfl⟩
  · have habandoned : TableFrame { s with records := (s.abandonRecord st).records } (s.abandonRecord st) := by
      unfold State.abandonRecord
      split <;> exact ⟨rfl, rfl, rfl, rfl, rfl, rfl, rfl⟩
    have hrest := (TableFrame.setStation (s.abandonRecord st) st ((s.abandonRecord st).station st).expired).trans
      (TableFrame.sendOrder _ st .abandon (s.heldOrdinal st))
    have := habandoned.trans hrest
    exact ⟨rfl, this.reopenList, this.serialMap, this.bogieGroups, this.carGroups, this.visit, this.limits⟩
  · constructor <;> simp

theorem tableMove_countDown (holds : s.HoldsSafe) (st : StationId) : TableMove s (s.countDown st) :=
  .holds (fun m => (record_countDown (fun _ => hold_ne_free_of_held holds) m).imp_right And.left) (tableFrame_countDown s st)

theorem tableMove_tick (holds : s.HoldsSafe) : TableMove s ((s.countDown .a).countDown .b) := by
  have hA := record_countDown (s := s) (st := .a) fun _ => hold_ne_free_of_held holds
  have hB := record_countDown (s := s.countDown .a) (st := .b) fun n hn => by
    rw [held_countDown] at hn
    rcases hA n with h | ⟨-, h⟩
    · rw [h]
      exact hold_ne_free_of_held holds hn
    · exact h
  refine .holds (fun m => ?_) ?_
  · rcases hA m with h | ⟨h, -⟩ <;> rcases hB m with k | ⟨k, -⟩
    · exact .inl (k.trans h)
    · rw [h] at k
      exact .inr k
    · rw [k]
      exact .inr h
    · exact .inr ⟨h.held, by rw [k.written, h.written]⟩
  · have a := tableFrame_countDown s .a
    have b := tableFrame_countDown (s.countDown .a) .b
    exact ⟨rfl, b.reopenList.trans a.reopenList, b.serialMap.trans a.serialMap, b.bogieGroups.trans a.bogieGroups,
      b.carGroups.trans a.carGroups, b.visit.trans a.visit, b.limits.trans a.limits⟩

/-! ## Every move -/

/-- A move of the table followed by what leaves the table. -/
theorem TableMove.then {t u : State} (h : TableMove s t) (k : TableFrame t u) : TableMove s u := by
  cases h
  case same h => exact .same (h.trans k)
  case limits hno h =>
    exact .limits hno ⟨(h.trans k).records, (h.trans k).reopenList, (h.trans k).serialMap, (h.trans k).bogieGroups, (h.trans k).carGroups,
      (h.trans k).visit, rfl⟩
  case cleared h1 h2 h3 h4 h5 h6 =>
    exact .cleared (fun m => (k.record m).trans (h1 m)) (k.reopenList.trans h2) (k.serialMap.trans h3) (k.bogieGroups.trans h4)
      (k.carGroups.trans h5) (k.visit.trans h6)
  case opened id h1 h2 h3 h => exact .opened id h1 h2 h3 (h.trans k)
  case load id cars h1 h2 h3 h => exact .load id cars h1 h2 h3 (h.trans k)
  case report n m serial h1 h2 h3 h4 h5 h6 h7 h => exact .report n m serial h1 h2 h3 h4 h5 h6 h7 (h.trans k)
  case replan n h1 h2 h3 h4 h => exact .replan n h1 h2 h3 h4 (h.trans k)
  case accept n h1 h2 h3 h4 h => exact .accept n h1 h2 h3 h4 (h.trans k)
  case condemn n h1 h2 h3 h4 h => exact .condemn n h1 h2 h3 h4 (h.trans k)
  case holds h1 h =>
    refine .holds (fun m => ?_) ⟨rfl, (h.trans k).reopenList, (h.trans k).serialMap, (h.trans k).bogieGroups, (h.trans k).carGroups,
      (h.trans k).visit, (h.trans k).limits⟩
    rw [k.record]
    exact h1 m
  case claim st n h1 h2 h3 h4 h => exact .claim st n h1 h2 h3 h4 (h.trans k)
  case passDone st n left right h1 h2 h3 h4 h => exact .passDone st n left right h1 h2 h3 h4 (h.trans k)
  case verify st n m h1 h2 h3 h => exact .verify st n m h1 h2 h3 (h.trans k)
  case release st n h1 h => exact .release st n h1 (h.trans k)

/-- A part that does not run has no visit (R81). -/
theorem noVisit_before_work (quiet : s.QuietSafe) (h : s.phase ≠ .running) : s.visit = .noVisit := by
  cases hp : s.phase with
  | running => exact absurd hp h
  | resetAsserted => rw [quiet.1 hp]; rfl
  | starting => rw [quiet.2 hp]; rfl

theorem tableMove_host {u : State} (safe : s.Safe) (h : HostEffect s u) : TableMove s u := by
  obtain ⟨-, -, holds, -⟩ := safe
  cases h
  case unchanged => exact .same (.refl s)
  case acknowledge mask => exact .same (.acknowledgeMask s mask)
  case program => exact .same ⟨rfl, rfl, rfl, rfl, rfl, rfl, rfl⟩
  case replan n h1 h64 hstage hfree => exact .replan n h1 h64 hstage hfree (.refl _)
  case accept n h1 h64 hstage hfree => exact .accept n h1 h64 hstage hfree (.refl _)
  case condemn n h1 h64 hstage hfree => exact .condemn n h1 h64 hstage hfree (.refl _)
  case openVisit id hno _ _ hnumber htext => exact .opened id hno hnumber htext ⟨rfl, rfl, rfl, rfl, rfl, rfl, rfl⟩
  case load id cars hopen h1 h16 _ => exact .load id cars hopen h1 h16 (.refl _)
  case window => exact .same ⟨rfl, rfl, rfl, rfl, rfl, rfl, rfl⟩
  case close => exact .cleared (tableGet_replicate ·) rfl rfl rfl rfl rfl
  case halt st _ _ => exact tableMove_setHold holds st rfl _ _ _
  case resume st _ _ => exact tableMove_setHold holds st rfl _ _ _
  case resetLink l _ => exact tableMove_resetLink holds l
  case openCatalogue => exact .same ⟨rfl, rfl, rfl, rfl, rfl, rfl, rfl⟩
  case closeCatalogue => exact .same ⟨rfl, rfl, rfl, rfl, rfl, rfl, rfl⟩
  case stage => exact .same ⟨rfl, rfl, rfl, rfl, rfl, rfl, rfl⟩
  case commit => exact .same ⟨rfl, rfl, rfl, rfl, rfl, rfl, rfl⟩
  case abort => exact .same ⟨rfl, rfl, rfl, rfl, rfl, rfl, rfl⟩

theorem tableMove_request {u : State} {l : LinkId} (safe : s.Safe) (h : RequestEffect s l u) : TableMove s u := by
  obtain ⟨-, -, holds, motion, -⟩ := safe
  have ⟨_, _, _, _, hpresent, _, _, _⟩ := motion
  cases h
  case unchanged => exact .same (.refl s)
  case reportRefused => exact .same ⟨rfl, rfl, rfl, rfl, rfl, rfl, rfl⟩
  case reportConflict => exact .same ⟨rfl, rfl, rfl, rfl, rfl, rfl, rfl⟩
  case report n m serial haligned hstage hrange hserial _ hnew =>
    have hn := hpresent n (by rw [Alignment.present, haligned]; simp)
    exact .report n m serial hn.1 hn.2 (free_of_gauge holds motion haligned) hstage hrange hserial hnew (.refl _)
  case aligned => exact .same ⟨rfl, rfl, rfl, rfl, rfl, rfl, rfl⟩
  case claim st n hstill haligned hnone hstage =>
    have hn := hpresent n (mem_present_of_alignedAt haligned)
    exact .claim st n hn.1 hn.2 (free_of_alignedAt holds motion haligned hnone) hstage (.refl _)
  case grant st _ _ _ _ _ _ _ _ _ => exact .same (.setStation s st _)
  case startPass st n depth hheld _ =>
    refine .holds (holdWritten_modRecord holds hheld (f := fun r => { r with hold := .cutting }) (fun _ => rfl) fun m => ?_) ?_
    · simp [State.startPass, State.modStation_eq, State.modRecord_eq, State.record_setRecord]
    · constructor <;> simp [State.startPass, State.modStation_eq, State.modRecord_eq]
  case passDone st n left right hheld hpass hleft hright => exact .passDone st n left right hheld hpass hleft hright (.refl _)
  case verify st n m hheld hidle hrange => exact .verify st n m hheld hidle hrange (.refl _)
  case release st n hheld _ _ => exact .release st n hheld (.holdFreed _)
  case cursor st _ _ => exact .same (.setStation s st _)

theorem tableMove_of_move {t : State} (safe : s.Safe) (h : Move s t) : TableMove s t := by
  have ⟨quiet, _, holds, _, _, _, _, _, store, _⟩ := safe
  cases h
  case idle => exact .same (.refl s)
  case window => exact .same ⟨rfl, rfl, rfl, rfl, rfl, rfl, rfl⟩
  case reset => exact .cleared (tableGet_replicate ·) rfl rfl rfl rfl rfl
  case resetEnd => exact .same ⟨rfl, rfl, rfl, rfl, rfl, rfl, rfl⟩
  case startUp hp =>
    refine .limits (noVisit_before_work quiet (by rw [hp]; decide)) ?_
    rw [endStartUp_eq]
    split <;> exact ⟨rfl, rfl, rfl, rfl, rfl, rfl, rfl⟩
  case level => exact .same ⟨rfl, rfl, rfl, rfl, rfl, rfl, rfl⟩
  case rise =>
    have hrise : TableFrame s (State.takeRise { s with moveRequest := true }) :=
      .trans (t := { s with moveRequest := true }) ⟨rfl, rfl, rfl, rfl, rfl, rfl, rfl⟩ (.takeRise _)
    exact .same (hrise.trans (.of_link (.flagStarts s _)))
  case fall => exact .same ⟨rfl, rfl, rfl, rfl, rfl, rfl, rfl⟩
  case pulse st => exact tableMove_countDown holds st
  case tick => exact tableMove_tick holds
  case written n readBack hwrite =>
    refine .limits (noVisit_of_writeInFlight store hwrite).1 ?_
    unfold State.completeWrite
    split <;> exact ⟨rfl, rfl, rfl, rfl, rfl, rfl, rfl⟩
  case arrival l f _ => exact .same (.of_link (.dispose s l f _))
  case discard l _ => exact .same (.of_link (.discardMalformed s l))
  case sending l => exact .same (.setLink s l _)
  case sent l => exact .same (.setLink s l _)
  case host i r u _ heffect =>
    exact (tableMove_host safe heffect).then (.command s u i r)
  case request l k f r u htake heffect => exact (tableMove_request safe heffect).then (.answer s u l f r)

end

end Sys2Proof.Machine
end

section
/-! PROOFS. Every step keeps the laws of the reopen list and of the serial map (R6, R26, R64, R68, R69). -/
namespace Sys2Proof.Machine

/-! ## The reopen list -/

section
variable {s t : State}

theorem reopenSafe_of_frame (h : TableFrame s t) (safe : s.ReopenSafe) : t.ReopenSafe := reopenSafe_congr h.records h.reopenList safe

/-- A shorter list whose records stand in their stage, hold and count keeps its laws. -/
theorem reopenSafe_of_sublist (safe : s.ReopenSafe) (list : t.reopenList.Sublist s.reopenList)
    (kept : ∀ m ∈ t.reopenList, (t.record m).stage = (s.record m).stage ∧ (t.record m).hold = (s.record m).hold
      ∧ (t.record m).reopenCount = (s.record m).reopenCount) : t.ReopenSafe := by
  refine ⟨safe.1.sublist list, fun m hm => ?_⟩
  obtain ⟨h1, h64, hstage, hhold, hcount⟩ := safe.2 m (list.subset hm)
  obtain ⟨kstage, khold, kcount⟩ := kept m hm
  exact ⟨h1, h64, kstage.trans hstage, khold.trans hhold, kcount.symm ▸ hcount⟩

/-- A write of one record that is not listed afterwards keeps the laws of the list. -/
theorem reopenSafe_of_written (safe : s.ReopenSafe) {n : Nat} (list : t.reopenList.Sublist s.reopenList) (hn : n ∉ t.reopenList)
    (kept : ∀ m, m ≠ n → t.record m = s.record m) : t.ReopenSafe :=
  reopenSafe_of_sublist safe list fun m hm => by
    rw [kept m fun h => hn (h ▸ hm)]
    exact ⟨rfl, rfl, rfl⟩

theorem reopenSafe_of_course (safe : s.ReopenSafe) (list : t.reopenList = s.reopenList)
    (course : ∀ m, (s.record m).CourseKept (t.record m)) : t.ReopenSafe :=
  reopenSafe_of_sublist safe (list ▸ List.Sublist.refl _) fun m _ => ⟨(course m).stage, (course m).hold, (course m).reopenCount⟩

theorem reopenList_unlist (n : Nat) : (s.unlist n).reopenList = s.reopenList.filter (· != n) := rfl

theorem reopenList_condemn (s : State) (n : Nat) (c : CondemnCause) : (s.condemn n c).reopenList = s.reopenList.filter (· != n) := by
  unfold State.condemn
  exact congrArg (List.filter (· != n)) (State.reopenList_clearHolderGrant s n)

theorem reopenList_block (s : State) (n t : Nat) (o : Nat × BlockReason) : (s.block n t o).reopenList = s.reopenList.filter (· != n) := by
  unfold State.block
  exact congrArg (List.filter (· != n)) (State.reopenList_clearHolderGrant s n)

theorem not_mem_filter_ne (l : List Nat) (n : Nat) : n ∉ l.filter (· != n) := by simp

theorem reopenSafe_condemn (safe : s.ReopenSafe) (n : Nat) (c : CondemnCause) : (s.condemn n c).ReopenSafe := by
  refine reopenSafe_of_written (n := n) safe ?_ ?_ fun m hm => ?_
  · rw [reopenList_condemn]
    exact List.filter_sublist
  · rw [reopenList_condemn]
    exact not_mem_filter_ne _ n
  · rw [record_condemn, if_neg fun h => hm h.1]

theorem reopenSafe_block (safe : s.ReopenSafe) (n d : Nat) (o : Nat × BlockReason) : (s.block n d o).ReopenSafe := by
  refine reopenSafe_of_written (n := n) safe ?_ ?_ fun m hm => ?_
  · rw [reopenList_block]
    exact List.filter_sublist
  · rw [reopenList_block]
    exact not_mem_filter_ne _ n
  · rw [record_block, if_neg fun h => hm h.1]

/-- A FINISHED record is FREE (R21). -/
theorem free_of_finished (holds : s.HoldsSafe) (m : Nat) (h : (s.record m).stage = .finished) : (s.record m).hold = .free := by
  have hrange : 1 ≤ m ∧ m ≤ 64 := by
    by_contra hout
    rw [State.record_outside s m hout] at h
    cases h
  obtain ⟨-, -, hstands, -⟩ := holdSafe_of_holdsSafe holds hrange.1 hrange.2
  rw [h] at hstands
  cases hhold : (s.record m).hold with
  | free => rfl
  | clamped | cutting | suspended => rw [hhold] at hstands; cases hstands

/-- A listed record that an applied evaluation does not finish stays PLANNED, with its count (R63, R65). -/
theorem planned_after_apply {n d : Nat} {h : Handed} (groups : s.GroupsSafe) (h1 : 1 ≤ n) (h64 : n ≤ 64) {m : Nat}
    (hplanned : (s.record m).stage = .planned)
    (hstays : ((s.applyEvaluation n h d (s.lowerings n d)).record n).stage ≠ .finished ∨ m ≠ n) :
    ((s.applyEvaluation n h d (s.lowerings n d)).record m).stage = .planned
      ∧ ((s.applyEvaluation n h d (s.lowerings n d)).record m).reopenCount = (s.record m).reopenCount := by
  rcases record_applyEvaluation_cases h groups h1 h64 m with ⟨rfl, hm⟩ | ⟨-, hm⟩ | ⟨-, l, -, -, hm⟩
  · have hstage : ((s.applyEvaluation m h d (s.lowerings m d)).record m).stage ≠ .finished := hstays.resolve_right fun h => h rfl
    rw [hm, Record.applied_eq] at hstage ⊢
    have hf : ¬ finishes s.limits (s.record m) h d = true := fun hf => hstage (if_pos hf)
    exact ⟨if_neg hf, if_neg fun hc => by rw [hplanned] at hc; cases hc.1⟩
  · rw [hm]
    exact ⟨hplanned, rfl⟩
  · have hno : wouldReopen s.limits (s.record m) l.target = false := by simp [wouldReopen, hplanned]
    rw [hm, Record.lowered_of_stands hno]
    exact ⟨hplanned, rfl⟩

theorem Record.reopenCount_applied_of_reopens {v : LimitValues} {r : Record} {h : Handed} {d : Nat} (hs : r.stage = .finished)
    (hf : ¬ finishes v r h d = true) : (r.applied v h d).reopenCount = r.reopenCount + 1 := by
  rw [Record.applied_eq]
  exact if_pos ⟨hs, hf⟩

/-- A record that an applied evaluation takes from FINISHED to PLANNED has reopened (R64). -/
theorem reopened_after_apply {n d : Nat} {h : Handed} (groups : s.GroupsSafe) (h1 : 1 ≤ n) (h64 : n ≤ 64) {m : Nat}
    (hfinished : (s.record m).stage = .finished)
    (hplanned : ((s.applyEvaluation n h d (s.lowerings n d)).record m).stage = .planned) :
    1 ≤ ((s.applyEvaluation n h d (s.lowerings n d)).record m).reopenCount := by
  rcases record_applyEvaluation_cases h groups h1 h64 m with ⟨rfl, hm⟩ | ⟨-, hm⟩ | ⟨-, l, -, -, hm⟩
  · rw [hm] at hplanned ⊢
    have hf : ¬ finishes s.limits (s.record m) h d = true := fun hf => by
      rw [Record.applied_eq] at hplanned
      cases (if_pos hf).symm.trans hplanned
    rw [Record.reopenCount_applied_of_reopens hfinished hf]
    exact Nat.le_add_left 1 _
  · rw [hm, hfinished] at hplanned
    cases hplanned
  · cases hre : wouldReopen s.limits (s.record m) l.target with
    | true =>
      rw [hm, Record.lowered_of_reopens hre]
      exact Nat.le_add_left 1 _
    | false =>
      rw [hm, Record.lowered_of_stands hre] at hplanned
      cases hfinished.symm.trans hplanned

theorem ordinals_nodup : ordinals.Nodup := by decide

theorem reopenSafe_applyEvaluation {n d : Nat} {h : Handed} (groups : s.GroupsSafe) (safe : s.ReopenSafe)
    (finished : ∀ m, (s.record m).stage = .finished → (s.record m).hold = .free) (h1 : 1 ≤ n) (h64 : n ≤ 64) :
    (s.applyEvaluation n h d (s.lowerings n d)).ReopenSafe := by
  have hrecord := record_applyEvaluation s n d h (s.lowerings n d)
  have hlist : (s.applyEvaluation n h d (s.lowerings n d)).reopenList = s.appliedList n d h (s.lowerings n d) := by rw [applyEvaluation_eq]
  have hmem : ∀ m, m ∈ reopenedBetween s (s.applyRecords n h d (s.lowerings n d)) →
      (1 ≤ m ∧ m ≤ 64) ∧ (s.record m).stage = .finished
        ∧ ((s.applyEvaluation n h d (s.lowerings n d)).record m).stage = .planned := by
    intro m hm
    rw [reopenedBetween, List.mem_filter, mem_ordinals, Bool.and_eq_true, beq_iff_eq, beq_iff_eq] at hm
    rw [hrecord]
    exact hm
  refine ⟨?_, fun m hm => ?_⟩
  · rw [hlist]
    refine List.Nodup.filter _ (List.Nodup.append safe.1 (ordinals_nodup.filter _) fun m hold hnew => ?_)
    cases (safe.2 m hold).2.2.1.symm.trans (hmem m hnew).2.1
  · have hhold := (Record.PlanKept.applyEvaluation s n d m h (s.lowerings n d)).hold
    rw [hlist, State.appliedList, List.mem_filter, List.mem_append, Bool.or_eq_true, bne_iff_ne, bne_iff_ne, ← hrecord] at hm
    obtain ⟨hold | hnew, hstays⟩ := hm
    · obtain ⟨m1, m64, hplanned, hfree, hcount⟩ := safe.2 m hold
      obtain ⟨kstage, kcount⟩ := planned_after_apply groups h1 h64 hplanned hstays
      exact ⟨m1, m64, kstage, hhold.trans hfree, kcount.symm ▸ hcount⟩
    · obtain ⟨⟨m1, m64⟩, hfinished, hplanned⟩ := hmem m hnew
      exact ⟨m1, m64, hplanned, hhold.trans (finished m hfinished), reopened_after_apply groups h1 h64 hfinished hplanned⟩

theorem reopenSafe_evaluate {n : Nat} (h : Handed) (groups : s.GroupsSafe) (safe : s.ReopenSafe)
    (finished : ∀ m, (s.record m).stage = .finished → (s.record m).hold = .free) (h1 : 1 ≤ n) (h64 : n ≤ 64) : (s.evaluate n h).ReopenSafe := by
  rcases evaluate_cases s n h with ⟨-, he⟩ | ⟨-, he⟩ | ⟨o, -, -, he⟩ | ⟨-, -, he⟩ <;> rw [he]
  · exact safe
  · exact reopenSafe_condemn safe n _
  · exact reopenSafe_block safe n _ o
  · exact reopenSafe_applyEvaluation groups safe finished h1 h64

/-- The laws an evaluation of the list needs, of a state that keeps its records' course. -/
theorem reopenSafe_evaluateMeasured {n : Nat} (groups : s.GroupsSafe) (safe : s.ReopenSafe)
    (finished : ∀ m, (s.record m).stage = .finished → (s.record m).hold = .free) (h1 : 1 ≤ n) (h64 : n ≤ 64) :
    (s.evaluateMeasured n).ReopenSafe := by
  unfold State.evaluateMeasured
  split
  · exact safe
  · rename_i a _
    have course := Record.CourseKept.writeAssessment s n (a := a)
    refine reopenSafe_evaluate _ (groupsSafe_writeAssessment s n a groups) (reopenSafe_of_course safe rfl course) (fun m hm => ?_) h1 h64
    rw [(course m).stage] at hm
    rw [(course m).hold]
    exact finished m hm

/-! ## The moves and the list -/

theorem range_of_held (holds : s.HoldsSafe) {st : StationId} {n : Nat} (h : (s.station st).held = some n) : 1 ≤ n ∧ n ≤ 64 := by
  by_contra hout
  have hfree := hold_ne_free_of_held holds h
  rw [State.record_outside s n hout] at hfree
  exact hfree rfl

/-- A held record is not listed: a listed one is FREE (R68). -/
theorem not_listed_of_held (holds : s.HoldsSafe) (safe : s.ReopenSafe) {st : StationId} {n : Nat} (h : (s.station st).held = some n) :
    n ∉ s.reopenList := fun hmem => hold_ne_free_of_held holds h (safe.2 n hmem).2.2.2.1

theorem reopenSafe_acceptDeviation (safe : s.ReopenSafe) {n : Nat} (hblocked : (s.record n).stage = .blocked) :
    (s.acceptDeviation n).ReopenSafe := by
  have hn : n ∉ s.reopenList := fun hmem => by cases hblocked.symm.trans (safe.2 n hmem).2.2.1
  have hlist : (s.acceptDeviation n).reopenList.Sublist s.reopenList := by
    unfold State.acceptDeviation
    simp only
    split
    · exact List.filter_sublist
    · exact List.Sublist.refl _
  refine reopenSafe_of_written safe hlist (fun h => hn (hlist.subset h)) fun m hm => ?_
  have hwritten := State.record_modRecord_ne s (fun r => r.deviated s.limits) hm
  unfold State.acceptDeviation
  simp only
  split <;> exact hwritten

/-- The writes at the end of a pass leave every record's stage, and every other record (R126). -/
theorem record_endPass (s : State) (st : StationId) (n left right m : Nat) : (s.endPass st n left right).record m =
    if m = n ∧ 1 ≤ n ∧ n ≤ 64 then
      { s.record n with hold := .clamped, passesDone := (s.record n).passesDone + 1, verified := false,
                        measured := (s.record n).measured.map fun m => m.withDiameters st left right }
    else s.record m := by
  simp [State.endPass, State.modStation_eq, State.modRecord_eq, State.record_setRecord]

theorem stage_endPass (s : State) (st : StationId) (n left right m : Nat) :
    ((s.endPass st n left right).record m).stage = (s.record m).stage := by
  rw [record_endPass]
  split
  · rename_i h
    rw [h.1]
  · rfl

theorem groupsSafe_endPass (groups : s.GroupsSafe) (st : StationId) (n left right : Nat) : (s.endPass st n left right).GroupsSafe := by
  have hstation := groupsSafe_congr (t := s.modStation st fun c => { c with passInFlight := false, suspended := false })
    (by simp [State.modStation_eq]) (by simp [State.modStation_eq]) (by simp [State.modStation_eq]) (by simp [State.modStation_eq])
    (by simp [State.modStation_eq]) groups
  exact groupsSafe_modRecord _ n _ (fun _ => rfl) (fun _ => rfl) (fun _ => rfl) hstation

theorem groupsSafe_storeVerify (groups : s.GroupsSafe) (st : StationId) (n : Nat) (m : Measurement) : (s.storeVerify st n m).GroupsSafe := by
  have hstation := groupsSafe_congr (t := s.modStation st fun c => { c with grant := none })
    (by simp [State.modStation_eq]) (by simp [State.modStation_eq]) (by simp [State.modStation_eq]) (by simp [State.modStation_eq])
    (by simp [State.modStation_eq]) groups
  exact groupsSafe_modRecord _ n _ (fun _ => rfl) (fun _ => rfl) (fun _ => rfl) hstation

/-- The record that a pass is made on is PLANNED (R21). -/
theorem planned_of_pass (holds : s.HoldsSafe) {st : StationId} {n : Nat} (hheld : (s.station st).held = some n)
    (hpass : (s.station st).passInFlight = true) : (s.record n).stage = .planned := by
  have old := heldRecord_of_holdsSafe holds hheld
  obtain ⟨-, -, hstands, -⟩ := holdSafe_of_holdsSafe holds old.ordinal (range_of_held holds hheld).2
  rw [old.hold, StationContext.hold, hpass] at hstands
  cases hs : (s.station st).suspended <;> simpa [hs, Hold.standsWith] using hstands

theorem reopenSafe_passDone (holds : s.HoldsSafe) (groups : s.GroupsSafe) (safe : s.ReopenSafe) {st : StationId} {n : Nat}
    (left right d : Nat) (hheld : (s.station st).held = some n) (hpass : (s.station st).passInFlight = true) :
    ((s.endPass st n left right).diameterTests n d).ReopenSafe := by
  have hrange := range_of_held holds hheld
  have hlist : (s.endPass st n left right).reopenList = s.reopenList := by
    simp [State.endPass, State.modStation_eq, State.modRecord_eq]
  have hended : (s.endPass st n left right).ReopenSafe :=
    reopenSafe_of_written (n := n) safe (hlist ▸ List.Sublist.refl _) (hlist ▸ not_listed_of_held holds safe hheld)
      fun m hm => by rw [record_endPass, if_neg fun h => hm h.1]
  unfold State.diameterTests
  simp only
  split_ifs
  · exact reopenSafe_of_frame (.flag _ _) (reopenSafe_condemn hended n _)
  · have course : ∀ m, ((s.endPass st n left right).record m).CourseKept
        ((((s.endPass st n left right).flag .overcut).modRecord n fun r => { r with ownNeed := some d }).record m) := fun m =>
      Record.CourseKept.modRecord ((s.endPass st n left right).flag .overcut) n m
        fun _ => ⟨rfl, rfl, rfl, rfl, rfl, rfl, rfl, rfl, rfl, rfl, rfl, id⟩
    refine reopenSafe_evaluate _ (groupsSafe_modRecord _ n _ (fun _ => rfl) (fun _ => rfl) (fun _ => rfl)
      (groupsSafe_congr rfl rfl rfl rfl rfl (groupsSafe_endPass groups st n left right)))
      (reopenSafe_of_course hended rfl course) (fun m hm => ?_) hrange.1 hrange.2
    rw [(course m).stage, stage_endPass] at hm
    have hne : m ≠ n := fun h => by
      rw [h, planned_of_pass holds hheld hpass] at hm
      cases hm
    rw [(course m).hold, record_endPass, if_neg fun h => hne h.1]
    exact free_of_finished holds m hm
  · exact hended

/-- The verified mark is no law of the list (R140). -/
theorem reopenSafe_decideVerified (safe : s.ReopenSafe) (n : Nat) (v : Verdict) (m : Measurement) : (s.decideVerified n v m).ReopenSafe := by
  refine reopenSafe_of_sublist safe (List.Sublist.refl _) fun k _ => ?_
  unfold State.decideVerified
  rw [State.record_modRecord]
  split
  · rename_i h
    rw [h.1]
    exact ⟨rfl, rfl, rfl⟩
  · exact ⟨rfl, rfl, rfl⟩

theorem reopenSafe_verify (holds : s.HoldsSafe) (groups : s.GroupsSafe) (safe : s.ReopenSafe) {st : StationId} {n : Nat} (m : Measurement)
    (hheld : (s.station st).held = some n) : ((s.storeVerify st n m).verifyRecord n m).ReopenSafe := by
  have hrange := range_of_held holds hheld
  have course := Record.CourseKept.storeVerify s st n (b := m)
  have stored : (s.storeVerify st n m).ReopenSafe :=
    reopenSafe_of_course safe (by simp [State.storeVerify, State.modStation_eq, State.modRecord_eq]) course
  unfold State.verifyRecord
  split
  · exact reopenSafe_decideVerified stored n _ m
  · rename_i a _
    have assessed := Record.CourseKept.writeAssessment (s.storeVerify st n m) n (a := a)
    refine reopenSafe_decideVerified (reopenSafe_evaluate _ (groupsSafe_writeAssessment _ n a (groupsSafe_storeVerify groups st n m))
      (reopenSafe_of_course stored rfl assessed) (fun k hk => ?_) hrange.1 hrange.2) n _ m
    rw [(assessed k).stage, (course k).stage] at hk
    rw [(assessed k).hold, (course k).hold]
    exact free_of_finished holds k hk

theorem reopenSafe_claim (safe : s.ReopenSafe) (st : StationId) (n : Nat) : (s.claim st n).ReopenSafe := by
  have hlist : (s.claim st n).reopenList = s.reopenList.filter (· != n) := by
    simp [State.claim, State.unlist, State.modStation_eq, State.modRecord_eq]
  refine reopenSafe_of_written (n := n) safe (hlist ▸ List.filter_sublist) (hlist ▸ not_mem_filter_ne _ n) fun m hm => ?_
  simp [State.claim, State.modStation_eq, State.modRecord_eq, State.record_setRecord, hm]

/-- The record a RELEASE writes (R142). -/
theorem record_releaseRecord (s : State) (st : StationId) (n m : Nat) :
    (s.releaseRecord st n).record m = if m = n ∧ 1 ≤ n ∧ n ≤ 64 then (s.record n).released else s.record m := by
  unfold State.releaseRecord
  simp only
  split <;> simp [State.modStation_eq, State.modRecord_eq, State.record_setRecord]

theorem reopenSafe_releaseRecord (holds : s.HoldsSafe) (safe : s.ReopenSafe) {st : StationId} {n : Nat}
    (hheld : (s.station st).held = some n) : (s.releaseRecord st n).ReopenSafe := by
  have hlist : (s.releaseRecord st n).reopenList.Sublist s.reopenList := by
    unfold State.releaseRecord
    simp only
    split
    · simp [State.unlist, State.modStation_eq, State.modRecord_eq]
    · simp [State.modStation_eq, State.modRecord_eq]
  refine reopenSafe_of_written safe hlist (fun h => not_listed_of_held holds safe hheld (hlist.subset h)) fun m hm => ?_
  rw [record_releaseRecord, if_neg fun h => hm h.1]

/-- Every move of the table keeps the laws of the reopen list. -/
theorem reopenSafe_move (safe : s.Safe) (h : TableMove s t) : t.ReopenSafe := by
  obtain ⟨-, -, holds, -, records, groups, reopen, -⟩ := safe
  have finished := free_of_finished holds
  cases h
  case same h => exact reopenSafe_of_frame h reopen
  case limits hno h => exact reopenSafe_of_frame h reopen
  case cleared _ hlist _ _ _ _ => exact ⟨hlist ▸ List.nodup_nil, fun m hm => by rw [hlist] at hm; cases hm⟩
  case opened h => exact reopenSafe_of_frame h reopen
  case load id cars _ _ _ h =>
    have hempty : (s.load id cars).ReopenSafe := ⟨List.nodup_nil, nofun⟩
    exact reopenSafe_of_frame h hempty
  case report n m serial h1 hn hfree _ _ _ _ h =>
    have course := Record.CourseKept.storeReport s n (b := m) (serial := serial)
    refine reopenSafe_of_frame h (reopenSafe_evaluateMeasured (groupsSafe_storeReport s n m serial groups)
      (reopenSafe_of_course reopen ?_ course) (fun k hk => ?_) h1 (hn.trans (recordCount_le records)))
    · unfold State.storeReport State.storeSerial
      split <;> rfl
    · rw [(course k).stage] at hk
      rw [(course k).hold]
      exact finished k hk
  case replan n h1 h64 _ _ h => exact reopenSafe_of_frame h (reopenSafe_evaluateMeasured groups reopen finished h1 h64)
  case accept n _ _ hstage _ h => exact reopenSafe_of_frame h (reopenSafe_acceptDeviation reopen hstage)
  case condemn n _ _ _ _ h => exact reopenSafe_of_frame h (reopenSafe_condemn reopen n _)
  case holds hrecords h =>
    refine reopenSafe_of_sublist reopen (h.reopenList ▸ List.Sublist.refl _) fun m hm => ?_
    rw [h.reopenList] at hm
    rcases hrecords m with hm' | hm'
    · rw [hm']
      exact ⟨rfl, rfl, rfl⟩
    · exact absurd (reopen.2 m hm).2.2.2.1 hm'.held
  case claim st n _ _ _ _ h => exact reopenSafe_of_frame h (reopenSafe_claim reopen st n)
  case passDone st n left right hheld hpass _ _ h => exact reopenSafe_of_frame h (reopenSafe_passDone holds groups reopen left right _ hheld hpass)
  case verify st n m hheld _ _ h => exact reopenSafe_of_frame h (reopenSafe_verify holds groups reopen m hheld)
  case release st n hheld h => exact reopenSafe_of_frame h (reopenSafe_releaseRecord holds reopen hheld)

end

/-! ## The serial map -/

theorem mem_serialInsert {x n : Nat} {map : List (Nat × Nat)} {e : Nat × Nat} : e ∈ serialInsert x n map ↔ e = (x, n) ∨ e ∈ map := by
  induction map with
  | nil => simp [serialInsert]
  | cons k rest ih =>
    unfold serialInsert
    split
    · simp
    · rw [List.mem_cons, ih, List.mem_cons]
      exact or_left_comm

/-- A serial that is not in the map goes to its place (R26). -/
theorem pairwise_serialInsert {x n : Nat} {map : List (Nat × Nat)} (rising : map.Pairwise (fun a b => a.1 < b.1)) (hnew : ∀ e ∈ map, e.1 ≠ x) :
    (serialInsert x n map).Pairwise (fun a b => a.1 < b.1) := by
  induction map with
  | nil => exact List.pairwise_singleton _ _
  | cons k rest ih =>
    obtain ⟨hk, hrest⟩ := List.pairwise_cons.mp rising
    obtain ⟨hkx, hnew'⟩ := List.forall_mem_cons.mp hnew
    unfold serialInsert
    split
    · rename_i hlt
      exact List.pairwise_cons.mpr ⟨List.forall_mem_cons.mpr ⟨hlt, fun e he => lt_trans hlt (hk e he)⟩, rising⟩
    · refine List.pairwise_cons.mpr ⟨fun e he => ?_, ih hrest hnew'⟩
      rcases mem_serialInsert.mp he with rfl | he
      · exact lt_of_le_of_ne (Nat.le_of_not_lt ‹_›) hkx
      · exact hk e he

/-- The map pairs a serial with an ordinal where an entry says so, and with none where no entry does (R26). -/
theorem serialOrdinal_eq_none_iff (map : List (Nat × Nat)) (x : Nat) : serialOrdinal map x = none ↔ ∀ e ∈ map, e.1 ≠ x := by
  simp [serialOrdinal]

theorem mem_of_serialOrdinal {map : List (Nat × Nat)} {x n : Nat} (h : serialOrdinal map x = some n) : (x, n) ∈ map := by
  obtain ⟨e, he, rfl⟩ := Option.map_eq_some_iff.mp h
  have hx : e.1 = x := by simpa using List.find?_some he
  rw [← hx]
  exact List.mem_of_find?_eq_some he

section
variable {s t : State}

theorem serialsSafe_of_frame (h : TableFrame s t) (safe : s.SerialsSafe) : t.SerialsSafe :=
  serialsSafe_congr (fun n => by rw [h.record]) h.serialMap h.visit safe

/-- The serial of a report is new to the map where its record has none (R101, R104). -/
theorem serial_new (safe : s.SerialsSafe) {c n : Nat} (hnone : (s.record n).serial = none)
    (hnew : serialDuplicate s.serialMap (some c) n = none) : ∀ e ∈ s.serialMap, e.1 ≠ c := by
  rw [← serialOrdinal_eq_none_iff]
  cases hm : serialOrdinal s.serialMap c with
  | none => rfl
  | some m =>
    simp only [serialDuplicate, hm] at hnew
    split at hnew
    · rename_i hmn
      rw [beq_iff_eq] at hmn
      have := (safe.2.1 _ (mem_of_serialOrdinal hm)).2.2.2
      rw [hmn, hnone] at this
      cases this
    · cases hnew

theorem serialsSafe_storeSerial (safe : s.SerialsSafe) {n : Nat} (h1 : 1 ≤ n) (hn : n ≤ s.recordCount) (h64 : n ≤ 64) {serial : Option Nat}
    (hzero : serial ≠ some 0) (hnew : serialDuplicate s.serialMap serial n = none) : (s.storeSerial n serial).SerialsSafe := by
  unfold State.storeSerial
  split
  case h_2 => exact safe
  case h_3 => exact safe
  case h_1 c hnone =>
    have hfresh := serial_new safe hnone hnew
    obtain ⟨hrising, hentries, hcarried⟩ := safe
    have hrecord : ∀ m, State.record { s.modRecord n (fun r => { r with serial := some c }) with serialMap := serialInsert c n s.serialMap } m
        = if m = n ∧ 1 ≤ n ∧ n ≤ 64 then { s.record n with serial := some c } else s.record m :=
      fun m => State.record_modRecord s n m (fun r => { r with serial := some c })
    refine ⟨pairwise_serialInsert hrising hfresh, fun e he => ?_, fun m hm x hx => ?_⟩
    · rw [hrecord]
      rcases mem_serialInsert.mp he with rfl | he
      · exact ⟨fun hc => hzero (congrArg some hc), h1, hn, by rw [if_pos ⟨rfl, h1, h64⟩]⟩
      · obtain ⟨k1, k2, k3, k4⟩ := hentries e he
        have hne : e.2 ≠ n := fun h => by
          rw [h, hnone] at k4
          cases k4
        exact ⟨k1, k2, k3, by rw [if_neg fun h => hne h.1]; exact k4⟩
    · rw [hrecord] at hx
      refine mem_serialInsert.mpr ?_
      split at hx
      · rename_i hmn
        cases hx
        exact .inl (by rw [hmn.1])
      · exact .inr (hcarried m hm x hx)

/-- No record carries a serial where none is loaded (R17). -/
theorem serial_of_vacant {r : Record} (h : r = Record.vacant) : r.serial = none := by rw [h]; rfl

theorem serialsSafe_of_serials (serial : ∀ m, (t.record m).serial = (s.record m).serial) (map : t.serialMap = s.serialMap)
    (visit : t.visit = s.visit) (safe : s.SerialsSafe) : t.SerialsSafe := serialsSafe_congr serial map visit safe

theorem serialsSafe_of_empty (serial : ∀ m, (t.record m).serial = none) (map : t.serialMap = []) : t.SerialsSafe := by
  refine ⟨map ▸ List.Pairwise.nil, fun e he => ?_, fun m _ x hx => ?_⟩
  · rw [map] at he
    cases he
  · rw [serial] at hx
    cases hx

/-- The records after LOAD CONSIST: those of the consist ANNOUNCED, every other as it was (R17, R87). -/
theorem record_load (s : State) (id : VisitIdentity) (cars : List Car) (m : Nat) : (s.load id cars).record m =
    if h : 1 ≤ m ∧ m ≤ 64 ∧ carOf m - 1 < cars.length then loadedRecord m (cars[carOf m - 1]'h.2.2) else s.record m := by
  by_cases hm : 1 ≤ m ∧ m ≤ 64
  · have htable : (s.load id cars).record m = _ := tableGet_tableOf _ m hm.1 hm.2
    rw [htable]
    by_cases hc : carOf m - 1 < cars.length
    · simp only [List.getElem?_eq_getElem hc, hm, hc, and_self, dite_true]
    · simp only [List.getElem?_eq_none (Nat.le_of_not_lt hc), hc, and_false, dite_false]
      rfl
  · rw [State.record_outside _ m hm, State.record_outside s m hm, dif_neg fun h => hm ⟨h.1, h.2.1⟩]

/-- Where no record is loaded the map is empty (R26). -/
theorem serialMap_of_not_loaded (safe : s.SerialsSafe) (h : s.recordCount = 0) : s.serialMap = [] :=
  List.eq_nil_iff_forall_not_mem.mpr fun e he => by
    obtain ⟨-, h1, hn, -⟩ := safe.2.1 e he
    omega

/-- Where no record is loaded none carries a serial (R17). -/
theorem serial_of_not_loaded (safe : s.SerialsSafe) (h : s.recordCount = 0) (m : Nat) : (s.record m).serial = none := by
  by_cases hm : 1 ≤ m ∧ m ≤ 64
  · refine Option.eq_none_iff_forall_ne_some.mpr fun x hx => ?_
    have := safe.2.2 m ((mem_ordinals m).mpr hm) x hx
    rw [serialMap_of_not_loaded safe h] at this
    cases this
  · rw [State.record_outside s m hm]
    rfl

theorem serial_evaluateMeasured (s : State) (n m : Nat) : ((s.evaluateMeasured n).record m).serial = (s.record m).serial := by
  unfold State.evaluateMeasured
  split
  · rfl
  · refine (Record.PlanKept.evaluate _ n m _).serial.trans ?_
    unfold State.writeAssessment
    rw [State.record_modRecord]
    split
    · rename_i h
      rw [h.1]
    · rfl

theorem serialMap_evaluateMeasured (s : State) (n : Nat) : (s.evaluateMeasured n).serialMap = s.serialMap :=
  (planFrame_evaluateMeasured s n).serialMap

/-- A write of records that leaves their serials. -/
theorem serial_modRecord (s : State) (n m : Nat) {f : Record → Record} (hf : ∀ r, (f r).serial = r.serial) :
    ((s.modRecord n f).record m).serial = (s.record m).serial := by
  rw [State.record_modRecord]
  split
  · rename_i h
    rw [hf, h.1]
  · rfl

theorem serial_condemn (s : State) (n m : Nat) (c : CondemnCause) : ((s.condemn n c).record m).serial = (s.record m).serial :=
  (Record.PlanKept.condemn s n m c).serial

theorem serial_acceptDeviation (s : State) (n m : Nat) : ((s.acceptDeviation n).record m).serial = (s.record m).serial := by
  have hwritten := serial_modRecord s n m (f := fun r => r.deviated s.limits) fun _ => rfl
  unfold State.acceptDeviation
  simp only
  split <;> exact hwritten

theorem serial_diameterTests (s : State) (n d m : Nat) : ((s.diameterTests n d).record m).serial = (s.record m).serial := by
  unfold State.diameterTests
  simp only
  split_ifs
  · exact serial_condemn s n m _
  · exact (Record.PlanKept.evaluate _ n m _).serial.trans (serial_modRecord (s.flag .overcut) n m fun _ => rfl)
  · rfl

theorem serial_verifyRecord (s : State) (n m : Nat) (b : Measurement) : ((s.verifyRecord n b).record m).serial = (s.record m).serial := by
  unfold State.verifyRecord
  split
  · exact serial_modRecord s n m fun _ => rfl
  · rename_i a _
    calc ((((s.writeAssessment n a).evaluate n a.handed).decideVerified n a.verdict b).record m).serial
        = (((s.writeAssessment n a).evaluate n a.handed).record m).serial := serial_modRecord _ n m fun _ => rfl
      _ = ((s.writeAssessment n a).record m).serial := (Record.PlanKept.evaluate _ n m _).serial
      _ = (s.record m).serial := serial_modRecord s n m fun _ => rfl

/-- Every move of the table keeps the laws of the serial map. -/
theorem serialsSafe_move (safe : s.Safe) (h : TableMove s t) : t.SerialsSafe := by
  obtain ⟨-, -, -, -, records, -, -, serials, -⟩ := safe
  cases h
  case same h => exact serialsSafe_of_frame h serials
  case limits hno h => exact serialsSafe_of_frame h serials
  case cleared hrecords _ hmap _ _ _ => exact serialsSafe_of_empty (fun m => by rw [hrecords]; rfl) hmap
  case opened id hno _ _ h =>
    have hzero : s.recordCount = 0 := by simp only [State.recordCount, consist_of_noVisit hno, List.length_nil, Nat.mul_zero]
    exact serialsSafe_of_empty (fun m => by rw [h.record]; exact serial_of_not_loaded serials hzero m)
      (Eq.trans (b := s.serialMap) h.serialMap (serialMap_of_not_loaded serials hzero))
  case load id cars hopen _ _ h =>
    have hzero : s.recordCount = 0 := recordCount_of_not_loaded (by simp only [State.isLoaded, hopen])
    refine serialsSafe_of_empty (fun m => ?_) (Eq.trans (b := s.serialMap) h.serialMap (serialMap_of_not_loaded serials hzero))
    rw [h.record, record_load]
    split
    · rfl
    · exact serial_of_not_loaded serials hzero m
  case report n m serial h1 hn _ _ _ hserial hnew h =>
    refine serialsSafe_of_frame h (serialsSafe_of_serials (s := s.storeSerial n serial) (fun k => ?_) ?_ ?_
      (serialsSafe_storeSerial serials h1 hn (hn.trans (recordCount_le records)) hserial hnew))
    · exact (serial_evaluateMeasured _ n k).trans (serial_modRecord (s.storeSerial n serial) n k
        (f := fun r => { r with measured := some { block := m, source := .gauge }, doubtful := false }) fun _ => rfl)
    · exact serialMap_evaluateMeasured _ n
    · exact (planFrame_evaluateMeasured _ n).visit
  case replan n _ _ _ _ h =>
    exact serialsSafe_of_frame h (serialsSafe_of_serials (serial_evaluateMeasured s n) (serialMap_evaluateMeasured s n)
      (planFrame_evaluateMeasured s n).visit serials)
  case accept n _ _ _ _ h =>
    exact serialsSafe_of_frame h (serialsSafe_of_serials (serial_acceptDeviation s n) (planFrame_acceptDeviation s n).serialMap
      (planFrame_acceptDeviation s n).visit serials)
  case condemn n _ _ _ _ h =>
    exact serialsSafe_of_frame h (serialsSafe_of_serials (fun m => serial_condemn s n m _) (planFrame_condemn s n _).serialMap
      (planFrame_condemn s n _).visit serials)
  case holds hrecords h =>
    refine serialsSafe_of_serials (s := s) (fun m => ?_) h.serialMap h.visit serials
    rcases hrecords m with hm | hm
    · rw [hm]
    · rw [hm.written]
  case claim st n _ _ _ _ h =>
    refine serialsSafe_of_frame h (serialsSafe_of_serials (fun m => ?_) ?_ ?_ serials)
    · have hwritten := serial_modRecord (s.modStation st fun c => { c with held := some n }) n m
        (f := fun r => { r with hold := .clamped, holder := some st, verified := false }) fun _ => rfl
      exact hwritten.trans (by rw [State.modStation_eq, State.record_setStation])
    · simp [State.claim, State.unlist, State.modStation_eq, State.modRecord_eq]
    · exact (WorkFrame.claim s st n).visit
  case passDone st n left right _ _ _ _ h =>
    refine serialsSafe_of_frame h (serialsSafe_of_serials (fun m => (serial_diameterTests _ n _ m).trans ?_) ?_ ?_ serials)
    · rw [record_endPass]
      split
      · rename_i hm
        rw [hm.1]
      · rfl
    · exact (planFrame_diameterTests _ n _).serialMap.trans (by simp [State.endPass, State.modStation_eq, State.modRecord_eq])
    · exact ((WorkFrame.endPass s st n left right).trans (.diameterTests _ n _)).visit
  case verify st n m _ _ _ h =>
    refine serialsSafe_of_frame h (serialsSafe_of_serials (fun k => (serial_verifyRecord _ n k m).trans ?_) ?_ ?_ serials)
    · have hwritten := serial_modRecord (s.modStation st fun c => { c with grant := none }) n k
        (f := fun r => { r with measured := some { block := m, source := stationSource st }, doubtful := false }) fun _ => rfl
      exact hwritten.trans (by rw [State.modStation_eq, State.record_setStation])
    · exact (planFrame_verifyRecord _ n m).serialMap.trans (by simp [State.storeVerify, State.modStation_eq, State.modRecord_eq])
    · exact ((WorkFrame.storeVerify s st n m).trans (.of_plan (planFrame_verifyRecord _ n m))).visit
  case release st n _ h =>
    refine serialsSafe_of_frame h (serialsSafe_of_serials (fun m => ?_) ?_ (WorkFrame.releaseRecord s st n).visit serials)
    · rw [record_releaseRecord]
      split
      · rename_i hm
        rw [hm.1]
        rfl
      · rfl
    · unfold State.releaseRecord
      simp only
      split <;> simp [State.unlist, State.modStation_eq, State.modRecord_eq]

end

end Sys2Proof.Machine

namespace Sys2Proof.Claims
open Sys2Proof.Machine

/-- Settles O58: a record joins the list as it reopens and leaves it as it is claimed, finished, blocked or condemned; a serial joins the map
with the first report that carries it. -/
theorem stepKeepsReopenListAndSerialMap : Obligations.StepKeepsReopenListAndSerialMap :=
  fun _ _ safe h => ⟨step_keeps (fun _ _ hs hm => reopenSafe_move hs (tableMove_of_move hs hm)) safe h,
    step_keeps (fun _ _ hs hm => serialsSafe_move hs (tableMove_of_move hs hm)) safe h⟩

end Sys2Proof.Claims
end

section
/-! PROOFS. Every step keeps the laws of the groups: floors follow the counted targets, and the counted targets of a group stay within its
tolerance of each other (R48 to R52). -/
namespace Sys2Proof.Machine

/-! ## Floors recomputed -/

section
variable {s t : State}

theorem groupsSafe_of_frame (h : TableFrame s t) (safe : s.GroupsSafe) : t.GroupsSafe :=
  groupsSafe_congr h.records h.visit h.limits h.bogieGroups h.carGroups safe

/-- Counted targets are read from the records (R50). -/
theorem countedTargets_congr {ms : List Nat} (counted : ∀ m ∈ ms, (t.record m).counted = (s.record m).counted)
    (target : ∀ m ∈ ms, (t.record m).target = (s.record m).target) : t.countedTargets ms = s.countedTargets ms := by
  refine List.filterMap_congr fun m hm => ?_
  rw [counted m hm, target m hm]

/-- A group with its floor recomputed keeps its laws in a state that changed the records named alone, where the counted targets are within
the tolerance (R51, R52). -/
theorem groupSafe_refloorGroup {ns : List Nat} {g : Group} (safe : s.GroupSafe g)
    (counted : ∀ m, m ∉ ns → (t.record m).counted = (s.record m).counted) (target : ∀ m, m ∉ ns → (t.record m).target = (s.record m).target)
    (within : ∀ a ∈ t.countedTargets g.members, ∀ b ∈ t.countedTargets g.members, a ≤ b + g.tolerance) :
    t.GroupSafe (t.refloorGroup ns g) := by
  unfold State.refloorGroup
  split
  case isTrue => exact ⟨rfl, within⟩
  case isFalse hno =>
    have hstand : ∀ m ∈ g.members, m ∉ ns := fun m hm hns => hno (List.any_eq_true.mpr ⟨m, hm, List.contains_iff_mem.mpr hns⟩)
    have htargets := countedTargets_congr (fun m hm => counted m (hstand m hm)) fun m hm => target m (hstand m hm)
    exact ⟨safe.1.trans (congrArg List.min? htargets.symm), within⟩

/-- Floors recomputed for the records that changed keep the laws of the groups (R51, R52). -/
theorem groupsSafe_refloored {ns : List Nat} (safe : s.GroupsSafe) (limits : t.limits = s.limits) (visit : t.visit = s.visit)
    (bogies : t.bogieGroups = s.bogieGroups.map (t.refloorGroup ns)) (cars : t.carGroups = s.carGroups.map (t.refloorGroup ns))
    (counted : ∀ m, m ∉ ns → (t.record m).counted = (s.record m).counted) (target : ∀ m, m ∉ ns → (t.record m).target = (s.record m).target)
    (within : ∀ g, g ∈ s.bogieGroups ∨ g ∈ s.carGroups →
      ∀ a ∈ t.countedTargets g.members, ∀ b ∈ t.countedTargets g.members, a ≤ b + g.tolerance) : t.GroupsSafe := by
  obtain ⟨hbogies, hcars, hbogie, hcar⟩ := safe
  have floorless : ∀ gs : List Group,
      (gs.map (t.refloorGroup ns)).map (fun g => { g with floor := none }) = gs.map (fun g => { g with floor := none }) := by
    intro gs
    rw [List.map_map]
    exact List.map_congr_left fun g _ => congrArg (fun k : Group => { k with floor := none }) (refloorGroup_floorless t ns g)
  refine ⟨?_, ?_, ?_, ?_⟩
  · rw [bogies, floorless, hbogies, limits, consist_congr visit]
  · rw [cars, floorless, hcars, limits, consist_congr visit]
  · rw [bogies]
    intro g' hg'
    obtain ⟨g, hg, rfl⟩ := List.mem_map.mp hg'
    exact groupSafe_refloorGroup (hbogie g hg) counted target (within g (.inl hg))
  · rw [cars]
    intro g' hg'
    obtain ⟨g, hg, rfl⟩ := List.mem_map.mp hg'
    exact groupSafe_refloorGroup (hcar g hg) counted target (within g (.inr hg))

/-- Counted targets that were counted before are as close as before (R52). -/
theorem within_of_fewer (safe : s.GroupsSafe)
    (fewer : ∀ m, (t.record m).counted = true → (s.record m).counted = true ∧ (t.record m).target = (s.record m).target) {g : Group}
    (hg : g ∈ s.bogieGroups ∨ g ∈ s.carGroups) :
    ∀ a ∈ t.countedTargets g.members, ∀ b ∈ t.countedTargets g.members, a ≤ b + g.tolerance := by
  have hsafe : s.GroupSafe g := hg.elim (safe.2.2.1 g) (safe.2.2.2 g)
  have hsub : ∀ x ∈ t.countedTargets g.members, x ∈ s.countedTargets g.members := by
    intro x hx
    obtain ⟨m, hm, hc, hx⟩ := (mem_countedTargets t _ x).mp hx
    obtain ⟨hsc, htarget⟩ := fewer m hc
    exact (mem_countedTargets s _ x).mpr ⟨m, hm, hsc, htarget ▸ hx⟩
  exact fun a ha b hb => hsafe.2 a (hsub a ha) b (hsub b hb)

/-- A write of one record that leaves it uncounted, with the floors of its groups recomputed (R12, R51, R75). -/
theorem groupsSafe_uncounted {n : Nat} (safe : s.GroupsSafe) (limits : t.limits = s.limits) (visit : t.visit = s.visit)
    (bogies : t.bogieGroups = s.bogieGroups.map (t.refloorGroup [n])) (cars : t.carGroups = s.carGroups.map (t.refloorGroup [n]))
    (others : ∀ m, m ≠ n → t.record m = s.record m) (subject : (t.record n).counted = false) : t.GroupsSafe := by
  have hothers : ∀ m, m ∉ [n] → t.record m = s.record m := fun m hm => others m (by simpa using hm)
  refine groupsSafe_refloored safe limits visit bogies cars (fun m hm => by rw [hothers m hm]) (fun m hm => by rw [hothers m hm])
    fun g hg => within_of_fewer safe (fun m hc => ?_) hg
  by_cases hm : m = n
  · rw [hm, subject] at hc
    cases hc
  · rw [others m hm] at hc ⊢
    exact ⟨hc, rfl⟩

/-- Floors are computed from the records alone (R51). -/
theorem refloorGroup_congr (records : t.records = s.records) (ns : List Nat) : t.refloorGroup ns = s.refloorGroup ns := by
  funext g
  have htargets : t.countedTargets g.members = s.countedTargets g.members :=
    countedTargets_congr (fun m _ => by rw [record_congr records]) fun m _ => by rw [record_congr records]
  simp only [State.refloorGroup, State.floorOf, htargets]

/-! ## The planner's outcomes -/

theorem groupsSafe_condemn (safe : s.GroupsSafe) {n : Nat} (h1 : 1 ≤ n) (h64 : n ≤ 64) (c : CondemnCause) : (s.condemn n c).GroupsSafe := by
  refine groupsSafe_uncounted (n := n) safe (planFrame_condemn s n c).limits (planFrame_condemn s n c).visit ?_ ?_ (fun m hm => ?_) ?_
  · exact congrArg₂ List.map rfl (State.bogieGroups_clearHolderGrant s n)
  · exact congrArg₂ List.map rfl (State.carGroups_clearHolderGrant s n)
  · rw [record_condemn, if_neg fun h => hm h.1]
  · rw [record_condemn, if_pos ⟨rfl, h1, h64⟩]
    simp [Record.counted]

theorem groupsSafe_block (safe : s.GroupsSafe) {n : Nat} (hc : (s.record n).stage ≠ .condemned) (d : Nat) (o : Nat × BlockReason) :
    (s.block n d o).GroupsSafe := by
  refine groupsSafe_of_countedTargets (planFrame_block s n d o).limits (planFrame_block s n d o).visit ?_ ?_ (fun m => ?_) (fun m => ?_) safe
  · exact State.bogieGroups_clearHolderGrant s n
  · exact State.carGroups_clearHolderGrant s n
  · rw [record_block]
    split
    case isFalse => rfl
    case isTrue h =>
      have hblocked : (Stage.blocked != Stage.condemned) = ((s.record n).stage != Stage.condemned) := (bne_iff_ne.mpr hc).symm
      rw [h.1, Record.counted, Record.counted, ← hblocked]
  · rw [record_block]
    split
    case isFalse => rfl
    case isTrue h => rw [h.1]

/-- The target of a counted record after an applied evaluation is the one the cascade gives it (R59, R63, R65). -/
theorem cascadeTarget_of_counted {n d m x : Nat} {h : Handed} (safe : s.GroupsSafe) (h1 : 1 ≤ n) (h64 : n ≤ 64)
    (hc : ((s.applyEvaluation n h d (s.lowerings n d)).record m).counted = true)
    (hx : ((s.applyEvaluation n h d (s.lowerings n d)).record m).target = some x) :
    x ∈ Claims.cascadeTarget s n d (s.lowerings n d) m := by
  rw [record_applyEvaluation, record_applyRecords h h1 h64 (lowerings_ascend safe n d)] at hc hx
  unfold Claims.cascadeTarget Claims.loweredTarget
  by_cases hm : m = n
  · rw [if_pos hm, Record.applied_eq] at hx
    rw [if_pos hm]
    exact hx
  · rw [if_neg hm] at hc hx ⊢
    cases hfind : (s.lowerings n d).find? (fun l => l.ordinal == m) with
    | none =>
      simp only [hfind] at hc hx
      rw [if_pos hc]
      exact hx
    | some l =>
      obtain ⟨hl, rfl⟩ := (find_lowering_iff (lowerings_ascend safe n d) m l).mp hfind
      simp only [hfind, Record.target_lowered] at hx
      rw [if_pos (lowering_ne_subject hl).2]
      exact hx

/-- Where the subject is waived nothing is lowered, and no other record is written (R58). -/
theorem fewer_of_waived {n d : Nat} {h : Handed} (safe : s.GroupsSafe) (h1 : 1 ≤ n) (h64 : n ≤ 64) (hw : (s.record n).waived = true) (m : Nat)
    (hc : ((s.applyEvaluation n h d (s.lowerings n d)).record m).counted = true) :
    (s.record m).counted = true ∧ ((s.applyEvaluation n h d (s.lowerings n d)).record m).target = (s.record m).target := by
  rcases record_applyEvaluation_cases h safe h1 h64 m with ⟨rfl, hm⟩ | ⟨-, hm⟩ | ⟨-, l, hl, -, -⟩
  · have hwaived := (Record.PlanKept.applied s.limits (s.record m) h d).waived.trans hw
    rw [hm, counted_iff, hwaived] at hc
    cases hc.2.2
  · rw [hm] at hc ⊢
    exact ⟨hc, rfl⟩
  · rw [lowerings_of_waived hw] at hl
    cases hl

theorem groupsSafe_applyEvaluation {n need : Nat} {h : Handed} (safe : s.GroupsSafe) (h1 : 1 ≤ n) (h64 : n ≤ 64) (hn : n ≤ s.recordCount) :
    (s.applyEvaluation n h (s.candidate n need) (s.lowerings n (s.candidate n need))).GroupsSafe := by
  generalize hd : s.candidate n need = d
  have hframe := planFrame_applyEvaluation s n h d (s.lowerings n d)
  have hfloors : (s.applyEvaluation n h d (s.lowerings n d)).refloorGroup (n :: (s.lowerings n d).map (·.ordinal))
      = (s.applyRecords n h d (s.lowerings n d)).refloorGroup (n :: (s.lowerings n d).map (·.ordinal)) :=
    refloorGroup_congr (records_applyEvaluation s n d h _) _
  have hothers : ∀ m, m ∉ n :: (s.lowerings n d).map (·.ordinal) →
      (s.applyEvaluation n h d (s.lowerings n d)).record m = s.record m := by
    intro m hm
    rcases record_applyEvaluation_cases h safe h1 h64 m with ⟨rfl, -⟩ | ⟨-, he⟩ | ⟨-, l, hl, rfl, -⟩
    · exact absurd List.mem_cons_self hm
    · exact he
    · exact absurd (List.mem_cons_of_mem _ (List.mem_map_of_mem hl)) hm
  refine groupsSafe_refloored (ns := n :: (s.lowerings n d).map (·.ordinal)) safe hframe.limits hframe.visit ?_ ?_
    (fun m hm => by rw [hothers m hm]) (fun m hm => by rw [hothers m hm]) fun g hg => ?_
  · rw [hfloors, applyEvaluation_eq]
  · rw [hfloors, applyEvaluation_eq]
  · cases hw : (s.record n).waived with
    | true => exact within_of_fewer safe (fewer_of_waived safe h1 h64 hw) hg
    | false =>
      obtain ⟨⟨gb, hgb⟩, gc, hgc⟩ := exists_groups safe h1 hn
      intro a ha b hb
      obtain ⟨i, hi, hic, hia⟩ := (mem_countedTargets _ _ a).mp ha
      obtain ⟨j, hj, hjc, hjb⟩ := (mem_countedTargets _ _ b).mp hb
      exact Claims.cascade_within_tolerance safe hw hgb hgc hd.symm hg hi hj (cascadeTarget_of_counted safe h1 h64 hic hia)
        (cascadeTarget_of_counted safe h1 h64 hjc hjb)

theorem groupsSafe_evaluate {n : Nat} (h : Handed) (safe : s.GroupsSafe) (h1 : 1 ≤ n) (h64 : n ≤ 64) (hn : n ≤ s.recordCount) :
    (s.evaluate n h).GroupsSafe := by
  rcases evaluate_cases s n h with ⟨-, he⟩ | ⟨-, he⟩ | ⟨o, hc, -, he⟩ | ⟨-, -, he⟩ <;> rw [he]
  · exact safe
  · exact groupsSafe_condemn safe h1 h64 _
  · exact groupsSafe_block safe hc _ o
  · exact groupsSafe_applyEvaluation safe h1 h64 hn

theorem groupsSafe_evaluateMeasured {n : Nat} (safe : s.GroupsSafe) (h1 : 1 ≤ n) (h64 : n ≤ 64) (hn : n ≤ s.recordCount) :
    (s.evaluateMeasured n).GroupsSafe := by
  unfold State.evaluateMeasured
  split
  · exact safe
  · exact groupsSafe_evaluate _ (groupsSafe_writeAssessment s n _ safe) h1 h64 hn

theorem groupsSafe_acceptDeviation (safe : s.GroupsSafe) {n : Nat} (h1 : 1 ≤ n) (h64 : n ≤ 64) : (s.acceptDeviation n).GroupsSafe := by
  have hframe := planFrame_acceptDeviation s n
  have hrecord : ∀ m, (s.acceptDeviation n).record m = (s.modRecord n fun r => r.deviated s.limits).record m := by
    intro m
    unfold State.acceptDeviation
    simp only
    split <;> rfl
  refine groupsSafe_uncounted (n := n) safe hframe.limits hframe.visit ?_ ?_ (fun m hm => ?_) ?_
  · unfold State.acceptDeviation
    simp only
    split <;> rfl
  · unfold State.acceptDeviation
    simp only
    split <;> rfl
  · rw [hrecord, State.record_modRecord_ne s _ hm]
  · rw [hrecord, State.record_modRecord, if_pos ⟨rfl, h1, h64⟩]
    simp [Record.counted, Record.deviated]

/-! ## The moves -/

theorem groupsSafe_diameterTests (safe : s.GroupsSafe) {n : Nat} (h1 : 1 ≤ n) (h64 : n ≤ 64) (hn : n ≤ s.recordCount) (d : Nat) :
    (s.diameterTests n d).GroupsSafe := by
  unfold State.diameterTests
  simp only
  split_ifs
  · exact groupsSafe_of_frame (.flag _ _) (groupsSafe_condemn safe h1 h64 _)
  · exact groupsSafe_evaluate _ (groupsSafe_modRecord _ n _ (fun _ => rfl) (fun _ => rfl) (fun _ => rfl)
      (groupsSafe_of_frame (.flag s _) safe)) h1 h64 hn
  · exact safe

theorem groupsSafe_verifyRecord (safe : s.GroupsSafe) {n : Nat} (h1 : 1 ≤ n) (h64 : n ≤ 64) (hn : n ≤ s.recordCount) (m : Measurement) :
    (s.verifyRecord n m).GroupsSafe := by
  unfold State.verifyRecord
  split
  · exact groupsSafe_modRecord s n _ (fun _ => rfl) (fun _ => rfl) (fun _ => rfl) safe
  · exact groupsSafe_modRecord _ n _ (fun _ => rfl) (fun _ => rfl) (fun _ => rfl)
      (groupsSafe_evaluate _ (groupsSafe_writeAssessment s n _ safe) h1 h64 hn)

/-- A record that is not VACANT is one of the consist (R1). -/
theorem le_recordCount_of_stage (records : s.RecordsSafe) {n : Nat} (h1 : 1 ≤ n) (h64 : n ≤ 64) (h : (s.record n).stage ≠ .vacant) :
    n ≤ s.recordCount := by
  by_contra hlt
  exact h ((records.1 n ((mem_ordinals n).mpr ⟨h1, h64⟩)).1.mpr (Nat.lt_of_not_le hlt))

theorem le_recordCount_of_rulable (records : s.RecordsSafe) {n : Nat} (h1 : 1 ≤ n) (h64 : n ≤ 64) (h : (s.record n).stage.rulable = true) :
    n ≤ s.recordCount :=
  le_recordCount_of_stage records h1 h64 fun hv => by
    rw [hv] at h
    cases h

/-- Without a consist there is no group (R48). -/
theorem no_groups (safe : s.GroupsSafe) (h : s.consist = []) : s.bogieGroups = [] ∧ s.carGroups = [] := by
  obtain ⟨hbogies, hcars, -, -⟩ := safe
  rw [h] at hbogies hcars
  exact ⟨List.map_eq_nil_iff.mp hbogies, List.map_eq_nil_iff.mp hcars⟩

theorem groupsSafe_of_none (consist : t.consist = []) (bogies : t.bogieGroups = []) (cars : t.carGroups = []) : t.GroupsSafe := by
  refine ⟨by rw [bogies, consist]; rfl, by rw [cars, consist]; rfl, fun g hg => ?_, fun g hg => ?_⟩
  · rw [bogies] at hg
    cases hg
  · rw [cars] at hg
    cases hg

/-- Where no record is loaded every record is VACANT (R1). -/
theorem record_of_not_loaded (records : s.RecordsSafe) (h : s.recordCount = 0) (m : Nat) : s.record m = Record.vacant := by
  by_cases hm : 1 ≤ m ∧ m ≤ 64
  · obtain ⟨hstage, hvacant, -⟩ := records.1 m ((mem_ordinals m).mpr hm)
    exact hvacant (hstage.mpr (by omega))
  · exact State.record_outside s m hm

/-- A consist just loaded has no target, and no floor (R48, R51, R87). -/
theorem groupsSafe_load (records : s.RecordsSafe) (id : VisitIdentity) (cars : List Car) (hzero : s.recordCount = 0) : (s.load id cars).GroupsSafe := by
  have huncounted : ∀ ms, (s.load id cars).countedTargets ms = [] := by
    intro ms
    refine List.eq_nil_iff_forall_not_mem.mpr fun x hx => ?_
    obtain ⟨m, -, hc, -⟩ := (mem_countedTargets _ ms x).mp hx
    rw [record_load] at hc
    split at hc
    · cases hc
    · rw [record_of_not_loaded records hzero] at hc
      cases hc
  have hsafe : ∀ g : Group, g.floor = none → (s.load id cars).GroupSafe g := by
    intro g hg
    refine ⟨?_, ?_⟩
    · rw [hg, State.floorOf, huncounted]
      rfl
    · rw [huncounted]
      exact nofun
  have hbogies : ∀ g ∈ buildBogieGroups s.limits cars 1, g.floor = none := fun g hg => by
    obtain ⟨cls, h⟩ := mem_buildBogieGroups hg
    rw [h]
    rfl
  have hcars : ∀ g ∈ buildCarGroups s.limits cars 1, g.floor = none := fun g hg => by
    obtain ⟨cls, h⟩ := mem_buildCarGroups hg
    rw [h]
    rfl
  have hkept : ∀ gs : List Group, (∀ g ∈ gs, g.floor = none) → gs.map (fun g => { g with floor := none }) = gs := fun gs h =>
    (List.map_congr_left fun g hg => by rw [← h g hg]; rfl).trans (List.map_id gs)
  exact ⟨hkept _ hbogies, hkept _ hcars, fun g hg => hsafe g (hbogies g hg), fun g hg => hsafe g (hcars g hg)⟩

theorem counted_released (r : Record) : r.released.counted = r.counted := by
  by_cases h : r.stage = .planned
  · have hfinished : (Stage.finished != Stage.condemned) = (Stage.planned != Stage.condemned) := rfl
    cases hv : r.verified <;> simp [Record.released, Record.counted, h, hv, hfinished]
  · simp [Record.released, Record.counted, h]

theorem groupsSafe_releaseRecord (safe : s.GroupsSafe) (st : StationId) (n : Nat) : (s.releaseRecord st n).GroupsSafe := by
  have hrest : (s.releaseRecord st n).bogieGroups = s.bogieGroups ∧ (s.releaseRecord st n).carGroups = s.carGroups := by
    unfold State.releaseRecord
    simp only
    split <;> simp [State.unlist, State.modStation_eq, State.modRecord_eq]
  have hframe := WorkFrame.releaseRecord s st n
  refine groupsSafe_of_countedTargets hframe.limits hframe.visit hrest.1 hrest.2 (fun m => ?_) (fun m => ?_) safe
  · rw [record_releaseRecord]
    split
    case isTrue h => rw [counted_released, h.1]
    case isFalse => rfl
  · rw [record_releaseRecord]
    split
    case isTrue h =>
      rw [h.1]
      rfl
    case isFalse => rfl

theorem groupsSafe_claim (safe : s.GroupsSafe) (st : StationId) (n : Nat) : (s.claim st n).GroupsSafe := by
  have hstation := groupsSafe_of_frame (.setStation s st { s.station st with held := some n }) safe
  exact groupsSafe_modRecord _ n (fun r => { r with hold := .clamped, holder := some st, verified := false }) (fun _ => rfl) (fun _ => rfl)
    (fun _ => rfl) hstation

/-- Every move of the table keeps the laws of the groups. -/
theorem groupsSafe_move (safe : s.Safe) (h : TableMove s t) : t.GroupsSafe := by
  obtain ⟨-, -, holds, -, records, groups, -⟩ := safe
  cases h
  case same h => exact groupsSafe_of_frame h groups
  case limits hno h =>
    obtain ⟨hbogies, hcars⟩ := no_groups groups (consist_of_noVisit hno)
    exact groupsSafe_of_none ((consist_congr h.visit).trans (consist_of_noVisit hno)) (h.bogieGroups.trans hbogies) (h.carGroups.trans hcars)
  case cleared _ _ _ hbogies hcars hvisit => exact groupsSafe_of_none (consist_of_noVisit hvisit) hbogies hcars
  case opened id hno _ _ h =>
    obtain ⟨hbogies, hcars⟩ := no_groups groups (consist_of_noVisit hno)
    exact groupsSafe_of_none (consist_congr h.visit) (h.bogieGroups.trans hbogies) (h.carGroups.trans hcars)
  case load id cars hopen _ _ h =>
    exact groupsSafe_of_frame h (groupsSafe_load records id cars (recordCount_of_not_loaded (by simp only [State.isLoaded, hopen])))
  case report n m serial h1 hn _ _ _ _ _ h =>
    have hcount : (s.storeReport n m serial).recordCount = s.recordCount := recordCount_congr (WorkFrame.storeReport s n m serial).visit
    exact groupsSafe_of_frame h (groupsSafe_evaluateMeasured (groupsSafe_storeReport s n m serial groups) h1
      (hn.trans (recordCount_le records)) (hcount.symm ▸ hn))
  case replan n h1 h64 hstage _ h =>
    exact groupsSafe_of_frame h (groupsSafe_evaluateMeasured groups h1 h64 (le_recordCount_of_rulable records h1 h64 hstage))
  case accept n h1 h64 _ _ h => exact groupsSafe_of_frame h (groupsSafe_acceptDeviation groups h1 h64)
  case condemn n h1 h64 _ _ h => exact groupsSafe_of_frame h (groupsSafe_condemn groups h1 h64 _)
  case holds hrecords h =>
    refine groupsSafe_of_countedTargets (s := s) h.limits h.visit h.bogieGroups h.carGroups (fun m => ?_) (fun m => ?_) groups
    · rcases hrecords m with hm | hm
      · rw [hm]
      · rw [hm.written]
        rfl
    · rcases hrecords m with hm | hm
      · rw [hm]
      · rw [hm.written]
  case claim st n _ _ _ _ h => exact groupsSafe_of_frame h (groupsSafe_claim groups st n)
  case passDone st n left right hheld _ _ _ h =>
    have hrange := range_of_held holds hheld
    have hcount : (s.endPass st n left right).recordCount = s.recordCount := recordCount_congr (WorkFrame.endPass s st n left right).visit
    exact groupsSafe_of_frame h (groupsSafe_diameterTests (groupsSafe_endPass groups st n left right) hrange.1 hrange.2
      (hcount.symm ▸ (heldRecord_of_holdsSafe holds hheld).loaded) _)
  case verify st n m hheld _ _ h =>
    have hrange := range_of_held holds hheld
    have hcount : (s.storeVerify st n m).recordCount = s.recordCount := recordCount_congr (WorkFrame.storeVerify s st n m).visit
    exact groupsSafe_of_frame h (groupsSafe_verifyRecord (groupsSafe_storeVerify groups st n m) hrange.1 hrange.2
      (hcount.symm ▸ (heldRecord_of_holdsSafe holds hheld).loaded) m)
  case release st n _ h => exact groupsSafe_of_frame h (groupsSafe_releaseRecord groups st n)

end

end Sys2Proof.Machine

namespace Sys2Proof.Claims
open Sys2Proof.Machine

/-- Settles O57: the cascade leaves every group within its tolerance, a record that is condemned or waived is counted no more, and each
changes the floors of its groups. -/
theorem stepKeepsGroups : Obligations.StepKeepsGroups :=
  fun _ _ safe h => step_keeps (fun _ _ hs hm => groupsSafe_move hs (tableMove_of_move hs hm)) safe h

end Sys2Proof.Claims
end

section
/-! PROOFS. Every step keeps the laws of the records (R1, R5, R7, R11 to R14, R17, R18, R73, R81, R83, R85). -/
namespace Sys2Proof.Machine

/-! ## A measured record -/

/-- The laws of a record that holds a measurement and an own need, whether or not its first evaluation has staged it yet (R7 to R14). -/
structure ReadyRecord (s : State) (n : Nat) (r : Record) : Prop where
  loaded : n ≤ s.recordCount
  present : r.stage ≠ .vacant
  position : r.position = s.loadedPosition n
  measured : r.measured.isSome = true
  inRange : ∀ m ∈ r.measured, m.block.inRange = true
  ownNeed : r.ownNeed.isSome = true
  target : r.stage = .planned ∨ r.stage = .finished → r.target.isSome = true
  blocked : r.blocked.isSome = true ↔ r.stage = .blocked
  cause : r.condemnCause.isSome = true ↔ r.stage = .condemned
  block : ∀ b ∈ r.blocked, 1 ≤ b.blocker ∧ b.blocker ≤ s.recordCount ∧ carOf b.blocker = carOf n ∧ ∀ t ∈ r.target, b.heldBack ≤ t
  passes : r.passesDone ≤ s.limits.maxPasses
  reopens : r.reopenCount ≤ s.limits.reopenLimit

section
variable {s t : State} {n : Nat}

theorem loadedPosition_congr (h : t.visit = s.visit) (n : Nat) : t.loadedPosition n = s.loadedPosition n := by
  simp only [State.loadedPosition, consist_congr h]

theorem ReadyRecord.congr {r : Record} (h : ReadyRecord s n r) (visit : t.visit = s.visit) (limits : t.limits = s.limits) :
    ReadyRecord t n r := by
  have count := recordCount_congr visit
  exact ⟨count ▸ h.loaded, h.present, (loadedPosition_congr visit n).symm ▸ h.position, h.measured, h.inRange, h.ownNeed, h.target,
    h.blocked, h.cause, count ▸ h.block, limits ▸ h.passes, limits ▸ h.reopens⟩

/-- A measured record that has been staged keeps the laws of a record. -/
theorem recordSafe_of_ready (h : ReadyRecord s n (s.record n)) (hstaged : (s.record n).stage ≠ .announced) : s.RecordSafe n :=
  ⟨⟨fun hv => absurd hv h.present, fun hlt => absurd hlt (Nat.not_lt.mpr h.loaded)⟩, fun hv => absurd hv h.present, h.position,
    fun ha => absurd ha hstaged, fun _ _ => ⟨h.measured, h.ownNeed⟩, h.inRange, h.target, h.blocked, h.cause, h.block, h.passes, h.reopens⟩

/-- A record that has been staged is measured (R7, R73). -/
theorem ready_of_recordSafe (h : s.RecordSafe n) (hpresent : (s.record n).stage ≠ .vacant) (hstaged : (s.record n).stage ≠ .announced) :
    ReadyRecord s n (s.record n) := by
  obtain ⟨hcount, -, hposition, -, hmeasured, hrange, htarget, hblocked, hcause, hblock, hpasses, hreopens⟩ := h
  exact ⟨Nat.le_of_not_lt fun hlt => hpresent (hcount.mpr hlt), hpresent, hposition, (hmeasured hpresent hstaged).1, hrange,
    (hmeasured hpresent hstaged).2, htarget, hblocked, hcause, hblock, hpasses, hreopens⟩

theorem recordSafe_congr (record : t.record n = s.record n) (visit : t.visit = s.visit) (limits : t.limits = s.limits)
    (safe : s.RecordSafe n) : t.RecordSafe n := by
  simpa only [State.RecordSafe, record, recordCount_congr visit, loadedPosition_congr visit, limits] using safe

theorem recordsSafe_of_frame (h : TableFrame s t) (safe : s.RecordsSafe) : t.RecordsSafe :=
  recordsSafe_congr h.records h.visit h.limits safe

/-- With the visit as it was the laws of the records are those of each record. -/
theorem recordsSafe_of_visit (safe : s.RecordsSafe) (visit : t.visit = s.visit) (own : ∀ m, 1 ≤ m → m ≤ 64 → t.RecordSafe m) :
    t.RecordsSafe := by
  obtain ⟨-, hlength, hloaded, hidentity⟩ := safe
  refine ⟨fun m hm => own m ((mem_ordinals m).mp hm).1 ((mem_ordinals m).mp hm).2, ?_, ?_, ?_⟩
  · rw [consist_congr visit]
    exact hlength
  · rw [isLoaded_congr visit, consist_congr visit]
    exact hloaded
  · rw [visit]
    exact hidentity

theorem recordSafe_of_recordsSafe (safe : s.RecordsSafe) {m : Nat} (h1 : 1 ≤ m) (h64 : m ≤ 64) : s.RecordSafe m :=
  safe.1 m ((mem_ordinals m).mpr ⟨h1, h64⟩)

/-- A record that is held is neither VACANT nor ANNOUNCED: such a record has nothing but its position (R17). -/
theorem staged_of_held (safe : s.RecordSafe n) (h : (s.record n).hold ≠ .free) :
    (s.record n).stage ≠ .vacant ∧ (s.record n).stage ≠ .announced := by
  obtain ⟨-, hvacant, -, hannounced, -⟩ := safe
  refine ⟨fun hv => h ?_, fun ha => h ?_⟩
  · rw [hvacant hv]
    rfl
  · rw [hannounced ha]
    rfl

/-! ## The planner's outcomes on a measured record -/

theorem ReadyRecord.condemned {r : Record} (h : ReadyRecord s n r) (c : CondemnCause) :
    ReadyRecord s n { r with stage := .condemned, condemnCause := some c, blocked := none, verified := false } :=
  ⟨h.loaded, nofun, h.position, h.measured, h.inRange, h.ownNeed, nofun, ⟨nofun, nofun⟩, ⟨fun _ => rfl, fun _ => rfl⟩, nofun, h.passes,
    h.reopens⟩

/-- A BLOCKED subject names an ordinal of its car, and holds back no more than its target (R11, R62). -/
theorem ReadyRecord.blockedBy {r : Record} (h : ReadyRecord s n r) (hc : r.stage ≠ .condemned) {d : Nat} {o : Nat × BlockReason}
    (hd : ∀ old ∈ r.target, d ≤ old) (ho : 1 ≤ o.1 ∧ o.1 ≤ s.recordCount ∧ carOf o.1 = carOf n) :
    ReadyRecord s n { r with stage := .blocked, blocked := some { heldBack := d, reason := o.2, blocker := o.1 }, verified := false } := by
  refine ⟨h.loaded, nofun, h.position, h.measured, h.inRange, h.ownNeed, ?_, ⟨fun _ => rfl, fun _ => rfl⟩, ⟨fun hs => ?_, nofun⟩, ?_,
    h.passes, h.reopens⟩
  · rintro (hp | hf)
    · cases hp
    · cases hf
  · exact absurd (h.cause.mp hs) hc
  · rintro b ⟨⟩
    exact ⟨ho.1, ho.2.1, ho.2.2, hd⟩

/-- A record that is PLANNED or FINISHED from now on, with a target and no block fields. -/
theorem ReadyRecord.staged {r r' : Record} (h : ReadyRecord s n r) (kept : r.PlanKept r') (hc : r.stage ≠ .condemned)
    (hcause : r'.condemnCause = r.condemnCause) (hstage : r'.stage = .planned ∨ r'.stage = .finished) (htarget : r'.target.isSome = true)
    (hblocked : r'.blocked = none) (hpasses : r'.passesDone ≤ s.limits.maxPasses) (hreopens : r'.reopenCount ≤ s.limits.reopenLimit) :
    ReadyRecord s n r' := by
  have hnone : r.condemnCause = none := by
    rw [← Option.not_isSome_iff_eq_none, h.cause]
    exact hc
  have hstages : r'.stage ≠ .vacant ∧ r'.stage ≠ .blocked ∧ r'.stage ≠ .condemned := by
    rcases hstage with hs | hs <;> rw [hs] <;> decide
  refine ⟨h.loaded, hstages.1, kept.position.trans h.position, kept.measured ▸ h.measured, kept.measured ▸ h.inRange,
    kept.ownNeed ▸ h.ownNeed, fun _ => htarget, ?_, ?_, ?_, hpasses, hreopens⟩
  · rw [hblocked]
    exact ⟨nofun, fun hs => absurd hs hstages.2.1⟩
  · rw [hcause, hnone]
    exact ⟨nofun, fun hs => absurd hs hstages.2.2⟩
  · rw [hblocked]
    exact nofun

/-- The subject of an applied evaluation, where its own REOPEN LIMIT is no obstacle (R64, R65). -/
theorem ReadyRecord.applied {r : Record} (h : ReadyRecord s n r) (hc : r.stage ≠ .condemned) {k : Handed} {d : Nat}
    (hlimit : r.stage = .finished → ¬ finishes s.limits r k d = true → r.reopenCount ≠ s.limits.reopenLimit) :
    ReadyRecord s n (r.applied s.limits k d) ∧ (r.applied s.limits k d).stage ≠ .announced := by
  have kept := Record.PlanKept.applied s.limits r k d
  rw [Record.applied_eq] at kept ⊢
  have hstage : (if finishes s.limits r k d = true then Stage.finished else Stage.planned) = .planned
      ∨ (if finishes s.limits r k d = true then Stage.finished else Stage.planned) = .finished := by
    split
    · exact .inr rfl
    · exact .inl rfl
  refine ⟨h.staged kept hc rfl hstage rfl rfl ?_ ?_, ?_⟩
  · simp only
    split
    · exact Nat.zero_le _
    · exact h.passes
  · simp only
    split
    case isTrue hre => exact Nat.lt_of_le_of_ne h.reopens (hlimit hre.1 hre.2)
    case isFalse => exact h.reopens
  · rcases hstage with hs | hs <;> simp only [hs] <;> decide

/-- A lowered member, where its REOPEN LIMIT is no obstacle (R61, R63). -/
theorem ReadyRecord.lowered {r : Record} (h : ReadyRecord s n r) (hc : r.stage ≠ .condemned) (hs : r.stage ≠ .announced) {d : Nat}
    (hlimit : wouldReopen s.limits r d = true → r.reopenCount ≠ s.limits.reopenLimit) :
    ReadyRecord s n (r.lowered s.limits d) ∧ (r.lowered s.limits d).stage ≠ .announced := by
  have kept := Record.PlanKept.lowered s.limits r d
  cases hre : wouldReopen s.limits r d with
  | true =>
    have hfinished : r.stage = .finished := ((wouldReopen_iff s.limits r d).mp hre).1
    have hnone : r.blocked = none := by
      rw [← Option.not_isSome_iff_eq_none, h.blocked, hfinished]
      decide
    rw [Record.lowered_of_reopens hre] at kept ⊢
    refine ⟨h.staged kept hc rfl (.inl rfl) rfl ?_ (Nat.zero_le _) (Nat.lt_of_le_of_ne h.reopens (hlimit hre)), nofun⟩
    rw [hnone]
    rfl
  | false =>
    rw [Record.lowered_of_stands hre]
    refine ⟨⟨h.loaded, h.present, h.position, h.measured, h.inRange, h.ownNeed, fun _ => rfl, ?_, h.cause, fun b hb => ?_, h.passes,
      h.reopens⟩, hs⟩
    · rw [Option.isSome_map]
      exact h.blocked
    · obtain ⟨b', hb', rfl⟩ := Option.map_eq_some_iff.mp hb
      obtain ⟨k1, k2, k3, -⟩ := h.block b' hb'
      refine ⟨k1, k2, k3, ?_⟩
      rintro x ⟨⟩
      exact Nat.min_le_right _ _

/-! ## The evaluation -/

theorem candidate_le_target {need old : Nat} (h : (s.record n).target = some old) : s.candidate n need ≤ old :=
  (candidate_le_own s n need).trans (minWith_le_of_mem h)

/-- A lowered member is one of the subject's car group (R54). -/
theorem lowering_member {d : Nat} {l : Lowering} (h : l ∈ s.lowerings n d) : ∃ gc, s.carGroup n = some gc ∧ l.ordinal ∈ gc.members := by
  unfold State.lowerings at h
  split at h
  · cases h
  · obtain ⟨m, hm, hl⟩ := List.mem_filterMap.mp h
    cases hgc : s.carGroup n with
    | none =>
      rw [hgc] at hm
      cases hm
    | some gc =>
      rw [hgc] at hm
      rw [loweringOf_ordinal hl]
      exact ⟨gc, rfl, hm⟩

/-- The obstacle that names a block is an ordinal of the subject's car (R61, R62). -/
theorem obstacle_in_car (groups : s.GroupsSafe) (h1 : 1 ≤ n) (hn : n ≤ s.recordCount) {h : Handed} {d : Nat} {o : Nat × BlockReason}
    (ho : s.chosenObstacle n h d (s.lowerings n d) = some o) : 1 ≤ o.1 ∧ o.1 ≤ s.recordCount ∧ carOf o.1 = carOf n := by
  have hsubject : o.1 = n → 1 ≤ o.1 ∧ o.1 ≤ s.recordCount ∧ carOf o.1 = carOf n := fun he => by
    rw [he]
    exact ⟨h1, hn, rfl⟩
  cases hlimit : s.ownReopenLimit n h d with
  | true =>
    rw [chosenObstacle_of_ownReopenLimit hlimit] at ho
    cases ho
    exact hsubject rfl
  | false =>
    rw [chosenObstacle_of_not_ownReopenLimit hlimit] at ho
    rcases List.mem_append.mp (lowestObstacle_some ho).1 with hs | hm
    · exact hsubject (subjectObstacle_names_subject (Option.mem_toList.mp hs))
    · obtain ⟨l, hl, hlo⟩ := List.mem_filterMap.mp hm
      have hordinal : o.1 = l.ordinal := by
        unfold State.memberObstacle at hlo
        simp only at hlo
        split_ifs at hlo <;> cases hlo <;> rfl
      obtain ⟨gc, hgc, hmem⟩ := lowering_member hl
      obtain ⟨hgcm, hgci⟩ := carGroup_some hgc
      rw [hordinal]
      exact ⟨one_le_of_mem_members groups (.inr hgcm) hmem, le_recordCount_of_mem_members groups (.inr hgcm) hmem,
        ((mem_members_carGroup groups hgcm _).mp hmem).2.trans hgci⟩

/-- Where nothing blocks, no reopen limit is reached (R61). -/
theorem limits_of_no_obstacle {h : Handed} {d : Nat} {ls : List Lowering} (ho : s.chosenObstacle n h d ls = none) :
    s.ownReopenLimit n h d = false ∧ ∀ l ∈ ls, s.memberObstacle l = none := by
  cases hlimit : s.ownReopenLimit n h d with
  | true =>
    rw [chosenObstacle_of_ownReopenLimit hlimit] at ho
    cases ho
  | false =>
    rw [chosenObstacle_of_not_ownReopenLimit hlimit, lowestObstacle_eq_none_iff, List.append_eq_nil_iff, List.filterMap_eq_nil_iff] at ho
    exact ⟨rfl, ho.2⟩

theorem reopenLimit_of_memberObstacle {l : Lowering} (h : s.memberObstacle l = none)
    (hre : wouldReopen s.limits (s.record l.ordinal) l.target = true) : (s.record l.ordinal).reopenCount ≠ s.limits.reopenLimit := by
  intro hcount
  unfold State.memberObstacle at h
  simp only [hre, hcount, beq_self_eq_true, Bool.and_self, if_true] at h
  split_ifs at h

/-- An evaluation of a measured record keeps the laws of every record (R54 to R65). -/
theorem recordSafe_evaluate {h : Handed} (groups : s.GroupsSafe) (h1 : 1 ≤ n) (h64 : n ≤ 64) (subject : ReadyRecord s n (s.record n))
    (others : ∀ m, 1 ≤ m → m ≤ 64 → m ≠ n → s.RecordSafe m) : ∀ m, 1 ≤ m → m ≤ 64 → (s.evaluate n h).RecordSafe m := by
  intro m m1 m64
  have hframe := planFrame_evaluate s n h
  have finish : ∀ {r : Record}, (s.evaluate n h).record m = r → ReadyRecord s m r → r.stage ≠ .announced → (s.evaluate n h).RecordSafe m := by
    rintro r rfl hready hstaged
    exact recordSafe_of_ready (hready.congr hframe.visit hframe.limits) hstaged
  have stand : m ≠ n → (s.evaluate n h).record m = s.record m → (s.evaluate n h).RecordSafe m := fun hm hrecord =>
    recordSafe_congr hrecord hframe.visit hframe.limits (others m m1 m64 hm)
  rcases evaluate_cases s n h with ⟨hc, he⟩ | ⟨-, he⟩ | ⟨o, hc, ho, he⟩ | ⟨hc, ho, he⟩
  · by_cases hm : m = n
    · subst hm
      exact finish (by rw [he]) subject (by rw [hc]; decide)
    · exact stand hm (by rw [he])
  · by_cases hm : m = n
    · subst hm
      exact finish (by rw [he, record_condemn, if_pos ⟨rfl, h1, h64⟩]) (subject.condemned .ownWear) nofun
    · exact stand hm (by rw [he, record_condemn, if_neg fun k => hm k.1])
  · by_cases hm : m = n
    · subst hm
      exact finish (by rw [he, record_block, if_pos ⟨rfl, h1, h64⟩])
        (subject.blockedBy hc (fun _ hold => candidate_le_target hold) (obstacle_in_car groups h1 subject.loaded ho)) nofun
    · exact stand hm (by rw [he, record_block, if_neg fun k => hm k.1])
  · obtain ⟨hlimit, hmembers⟩ := limits_of_no_obstacle ho
    rcases record_applyEvaluation_cases (t := s.candidate n h.ownNeed) h groups h1 h64 m with ⟨hmn, hm⟩ | ⟨hm, hrecord⟩ | ⟨hne, l, hl, hlm, hm⟩
    · subst hmn
      rw [← Bool.not_eq_true, ownReopenLimit_iff] at hlimit
      have hown := subject.applied hc (k := h) (d := s.candidate m h.ownNeed) fun hf hno hcount => hlimit ⟨hf, by simpa using hno, hcount⟩
      exact finish (by rw [he, hm]) hown.1 hown.2
    · exact stand hm (by rw [he, hrecord])
    · subst hlm
      have hsafe := others l.ordinal m1 m64 hne
      have hcounted := (counted_iff _).mp (lowering_ne_subject hl).2
      have hpresent : (s.record l.ordinal).stage ≠ .vacant := fun hv => by
        rw [hsafe.2.1 hv] at hcounted
        cases hcounted.1
      have hstaged : (s.record l.ordinal).stage ≠ .announced := fun ha => by
        rw [hsafe.2.2.2.1 ha] at hcounted
        cases hcounted.1
      obtain ⟨hready, hstage⟩ := (ready_of_recordSafe hsafe hpresent hstaged).lowered hcounted.2.1 hstaged
        (reopenLimit_of_memberObstacle (hmembers l hl))
      exact finish (by rw [he, hm]) hready hstage

/-! ## Step 1: the assessment exists -/

/-- A loaded record's profile is VALID (R32, R85). -/
theorem validProfile_of_loaded (store : s.StoreSafe) (h1 : 1 ≤ n) (hn : n ≤ s.recordCount) {r : Record} (hr : r.position = s.loadedPosition n) :
    (s.validProfile r.profile).isSome = true := by
  have hc : carOf n - 1 < s.consist.length := by
    simp only [State.recordCount, carOf] at *
    omega
  have hposition : r.profile = (s.consist[carOf n - 1]'hc).profile := by
    rw [Record.profile, hr]
    simp [State.loadedPosition, List.getElem?_eq_getElem hc, loadedRecord]
  obtain ⟨-, -, -, -, hconsist, -⟩ := store
  have hadmitted := (hconsist _ (List.getElem_mem hc)).2
  rw [hposition]
  unfold State.classesAdmitted at hadmitted
  split at hadmitted
  · cases hadmitted
  · rename_i i hi
    rw [hi]
    rfl

theorem exists_assessment (store : s.StoreSafe) (h1 : 1 ≤ n) (hn : n ≤ s.recordCount) (hposition : (s.record n).position = s.loadedPosition n)
    (hmeasured : (s.record n).measured.isSome = true) : ∃ a, s.assessment n = some a := by
  obtain ⟨m, hm⟩ := Option.isSome_iff_exists.mp hmeasured
  obtain ⟨i, hi⟩ := Option.isSome_iff_exists.mp (validProfile_of_loaded store h1 hn hposition)
  exact ⟨_, assessment_eq hm hi⟩

/-- What an arrival's record must keep before its evaluation: every law of a measured record but its own need. -/
theorem recordSafe_evaluateMeasured (store : s.StoreSafe) (groups : s.GroupsSafe) (h1 : 1 ≤ n) (h64 : n ≤ 64)
    (hmeasured : (s.record n).measured.isSome = true)
    (subject : ∀ need, ReadyRecord s n { s.record n with ownNeed := some need })
    (others : ∀ m, 1 ≤ m → m ≤ 64 → m ≠ n → s.RecordSafe m) : ∀ m, 1 ≤ m → m ≤ 64 → (s.evaluateMeasured n).RecordSafe m := by
  obtain ⟨a, ha⟩ := exists_assessment store h1 (subject 0).loaded (subject 0).position hmeasured
  rw [evaluateMeasured_eq ha]
  have hframe := planFrame_modRecord s n fun r => { r with ownNeed := some a.ownNeed, unfit := a.unfit }
  refine recordSafe_evaluate (groupsSafe_writeAssessment s n a groups) h1 h64 ?_ (fun k k1 k64 hk => ?_)
  · have hrecord : (s.writeAssessment n a).record n = { s.record n with ownNeed := some a.ownNeed, unfit := a.unfit } := by
      unfold State.writeAssessment
      rw [State.record_modRecord, if_pos ⟨rfl, h1, h64⟩]
    rw [hrecord]
    obtain ⟨k1, k2, k3, k4, k5, k6, k7, k8, k9, k10, k11, k12⟩ := subject a.ownNeed
    exact ReadyRecord.congr (s := s) ⟨k1, k2, k3, k4, k5, k6, k7, k8, k9, k10, k11, k12⟩ hframe.visit hframe.limits
  · exact recordSafe_congr (State.record_modRecord_ne s _ hk) hframe.visit hframe.limits (others k k1 k64 hk)

end

end Sys2Proof.Machine
end

section
/-! PROOFS. The moves of the table and the laws of the records. -/
namespace Sys2Proof.Machine

section
variable {s t : State} {n : Nat}

theorem vacant_ready {r : Record} (h : r.stage.rulable = true) : r.stage ≠ .vacant ∧ r.stage ≠ .announced := by
  constructor <;> (intro hs; rw [hs] at h; cases h)

/-- Where no record is loaded every record keeps its laws. -/
theorem recordSafe_of_not_loaded (h : s.consist = []) (record : ∀ m, s.record m = Record.vacant) (m : Nat) (m1 : 1 ≤ m) : s.RecordSafe m := by
  have hcount : s.recordCount = 0 := by simp only [State.recordCount, h, List.length_nil, Nat.mul_zero]
  have hposition : s.loadedPosition m = none := by simp [State.loadedPosition, h]
  unfold State.RecordSafe
  rw [record, hcount, hposition]
  exact ⟨⟨fun _ => m1, fun _ => rfl⟩, fun _ => rfl, rfl, nofun, fun h => absurd rfl h, nofun, fun h => h.elim nofun nofun, ⟨nofun, nofun⟩,
    ⟨nofun, nofun⟩, nofun, Nat.zero_le _, Nat.zero_le _⟩

theorem recordsSafe_of_not_loaded (h : s.consist = []) (loaded : s.isLoaded = false) (record : ∀ m, s.record m = Record.vacant)
    (identity : ∀ id ∈ s.visit.identity, id.number ≠ 0 ∧ id.trainCode.all textChar = true) : s.RecordsSafe :=
  ⟨fun m hm => recordSafe_of_not_loaded h record m ((mem_ordinals m).mp hm).1, by rw [h]; exact Nat.zero_le _,
    fun hl => absurd (hl.symm.trans loaded) (by decide), identity⟩

/-- A consist just loaded: its ordinals ANNOUNCED, the others VACANT (R17, R87). -/
theorem recordsSafe_load (records : s.RecordsSafe) {id : VisitIdentity} {cars : List Car} (hopen : s.visit = .opened id)
    (hlength : cars.length ≤ Config.maxCars) (hcar : 1 ≤ cars.length) : (s.load id cars).RecordsSafe := by
  have hzero : s.recordCount = 0 := recordCount_of_not_loaded (by simp only [State.isLoaded, hopen])
  refine ⟨fun m hm => ?_, hlength, fun _ => hcar, fun k hk => ?_⟩
  · obtain ⟨m1, m64⟩ := (mem_ordinals m).mp hm
    have hposition : (s.load id cars).loadedPosition m = match cars[carOf m - 1]? with
      | none => none
      | some c => (loadedRecord m c).position := rfl
    have hcount : (s.load id cars).recordCount = 4 * cars.length := rfl
    unfold State.RecordSafe
    rw [record_load, hposition, hcount]
    by_cases hc : carOf m - 1 < cars.length
    · rw [dif_pos ⟨m1, m64, hc⟩, List.getElem?_eq_getElem hc]
      refine ⟨⟨nofun, fun hlt => ?_⟩, nofun, rfl, fun _ => rfl, fun _ h => absurd rfl h, nofun, fun h => h.elim nofun nofun,
        ⟨nofun, nofun⟩, ⟨nofun, nofun⟩, nofun, Nat.zero_le _, Nat.zero_le _⟩
      simp only [carOf] at hc
      omega
    · rw [dif_neg fun h => hc h.2.2, List.getElem?_eq_none (Nat.le_of_not_lt hc), record_of_not_loaded records hzero]
      refine ⟨⟨fun _ => ?_, fun _ => rfl⟩, fun _ => rfl, rfl, nofun, fun h => absurd rfl h, nofun, fun h => h.elim nofun nofun,
        ⟨nofun, nofun⟩, ⟨nofun, nofun⟩, nofun, Nat.zero_le _, Nat.zero_le _⟩
      simp only [carOf] at hc
      omega
  · obtain ⟨-, -, -, hidentity⟩ := records
    rw [hopen] at hidentity
    exact hidentity k hk

/-- A held record's hold fields are read by no law of the records (R20). -/
theorem recordSafe_holdWritten (safe : s.RecordSafe n) (h : (s.record n).HoldWritten (t.record n)) (visit : t.visit = s.visit)
    (limits : t.limits = s.limits) : t.RecordSafe n := by
  obtain ⟨hpresent, hstaged⟩ := staged_of_held safe h.held
  obtain ⟨k1, k2, k3, k4, k5, k6, k7, k8, k9, k10, k11, k12⟩ := ready_of_recordSafe safe hpresent hstaged
  refine recordSafe_of_ready (ReadyRecord.congr (s := s) ?_ visit limits) ?_
  · rw [h.written]
    exact ⟨k1, k2, k3, k4, k5, k6, k7, k8, k9, k10, k11, k12⟩
  · rw [h.written]
    exact hstaged

/-- A write of one measured record, in a frame that keeps the visit and the limits. -/
theorem recordSafe_written (records : s.RecordsSafe) (visit : t.visit = s.visit) (limits : t.limits = s.limits)
    (kept : ∀ m, m ≠ n → t.record m = s.record m) (own : ReadyRecord s n (t.record n)) (hstaged : (t.record n).stage ≠ .announced)
    (m : Nat) (m1 : 1 ≤ m) (m64 : m ≤ 64) : t.RecordSafe m := by
  by_cases hm : m = n
  · subst hm
    exact recordSafe_of_ready (own.congr visit limits) hstaged
  · exact recordSafe_congr (kept m hm) visit limits (recordSafe_of_recordsSafe records m1 m64)

theorem ready_of_rulable (records : s.RecordsSafe) (h1 : 1 ≤ n) (h64 : n ≤ 64) (h : (s.record n).stage.rulable = true) :
    ReadyRecord s n (s.record n) :=
  ready_of_recordSafe (recordSafe_of_recordsSafe records h1 h64) (vacant_ready h).1 (vacant_ready h).2

theorem ready_of_held (holds : s.HoldsSafe) (records : s.RecordsSafe) {st : StationId} (h : (s.station st).held = some n) :
    ReadyRecord s n (s.record n) ∧ (s.record n).stage ≠ .announced := by
  have hrange := range_of_held holds h
  have hsafe := recordSafe_of_recordsSafe records hrange.1 hrange.2
  obtain ⟨hpresent, hstaged⟩ := staged_of_held hsafe (hold_ne_free_of_held holds h)
  exact ⟨ready_of_recordSafe hsafe hpresent hstaged, hstaged⟩

/-! ## Rulings -/

theorem recordsSafe_condemn (records : s.RecordsSafe) (h1 : 1 ≤ n) (h64 : n ≤ 64) (h : (s.record n).stage.rulable = true) (c : CondemnCause) :
    (s.condemn n c).RecordsSafe := by
  have hframe := planFrame_condemn s n c
  have hsubject : (s.condemn n c).record n
      = { s.record n with stage := .condemned, condemnCause := some c, blocked := none, verified := false } := by
    rw [record_condemn, if_pos ⟨rfl, h1, h64⟩]
  refine recordsSafe_of_visit records hframe.visit (recordSafe_written records hframe.visit hframe.limits
    (fun m hm => by rw [record_condemn, if_neg fun k => hm k.1]) ?_ ?_)
  · rw [hsubject]
    exact (ready_of_rulable records h1 h64 h).condemned c
  · rw [hsubject]
    nofun

/-- A record whose deviation is accepted stands at its held-back target (R75). -/
theorem ReadyRecord.deviated {r : Record} (h : ReadyRecord s n r) (hblocked : r.stage = .blocked) :
    ReadyRecord s n (r.deviated s.limits) ∧ (r.deviated s.limits).stage ≠ .announced := by
  obtain ⟨b, hb⟩ := Option.isSome_iff_exists.mp (h.blocked.mpr hblocked)
  have hcause : r.condemnCause = none := by
    rw [← Option.not_isSome_iff_eq_none, h.cause, hblocked]
    decide
  have htarget : (r.deviated s.limits).target = some b.heldBack := by simp [Record.deviated, Record.deviationTarget, hb]
  have hstage : (r.deviated s.limits).stage = .planned ∨ (r.deviated s.limits).stage = .finished := by
    unfold Record.deviated
    simp only
    split
    · exact .inr rfl
    · exact .inl rfl
  have hstages : (r.deviated s.limits).stage ≠ .vacant ∧ (r.deviated s.limits).stage ≠ .announced ∧ (r.deviated s.limits).stage ≠ .blocked
      ∧ (r.deviated s.limits).stage ≠ .condemned := by
    rcases hstage with hs | hs <;> rw [hs] <;> decide
  refine ⟨⟨h.loaded, hstages.1, h.position, h.measured, h.inRange, h.ownNeed, fun _ => by rw [htarget]; rfl,
    ⟨nofun, fun hs => absurd hs hstages.2.2.1⟩, ⟨fun hs => ?_, fun hs => absurd hs hstages.2.2.2⟩, nofun, h.passes, h.reopens⟩, hstages.2.1⟩
  have hkept : (r.deviated s.limits).condemnCause = none := hcause
  rw [hkept] at hs
  cases hs

theorem record_acceptDeviation (s : State) (n m : Nat) :
    (s.acceptDeviation n).record m = if m = n ∧ 1 ≤ n ∧ n ≤ 64 then (s.record n).deviated s.limits else s.record m := by
  have hwritten := State.record_modRecord s n m fun r => r.deviated s.limits
  unfold State.acceptDeviation
  simp only
  split <;> exact hwritten

theorem recordsSafe_acceptDeviation (records : s.RecordsSafe) (h1 : 1 ≤ n) (h64 : n ≤ 64) (h : (s.record n).stage = .blocked) :
    (s.acceptDeviation n).RecordsSafe := by
  have hframe := planFrame_acceptDeviation s n
  have hrulable : (s.record n).stage.rulable = true := by rw [h]; rfl
  obtain ⟨hready, hstaged⟩ := (ready_of_rulable records h1 h64 hrulable).deviated h
  have hsubject : (s.acceptDeviation n).record n = (s.record n).deviated s.limits := by rw [record_acceptDeviation, if_pos ⟨rfl, h1, h64⟩]
  exact recordsSafe_of_visit records hframe.visit (recordSafe_written records hframe.visit hframe.limits
    (fun m hm => by rw [record_acceptDeviation, if_neg fun k => hm k.1]) (hsubject ▸ hready) (hsubject ▸ hstaged))

theorem recordsSafe_replan (store : s.StoreSafe) (groups : s.GroupsSafe) (records : s.RecordsSafe) (h1 : 1 ≤ n) (h64 : n ≤ 64)
    (h : (s.record n).stage.rulable = true) : (s.evaluateMeasured n).RecordsSafe := by
  have hready := ready_of_rulable records h1 h64 h
  refine recordsSafe_of_visit records (planFrame_evaluateMeasured s n).visit
    (recordSafe_evaluateMeasured store groups h1 h64 hready.measured (fun need => ?_) fun m m1 m64 _ => recordSafe_of_recordsSafe records m1 m64)
  obtain ⟨k1, k2, k3, k4, k5, -, k7, k8, k9, k10, k11, k12⟩ := hready
  exact ⟨k1, k2, k3, k4, k5, rfl, k7, k8, k9, k10, k11, k12⟩

/-! ## Reports and verifications -/

/-- The record a report writes, before its evaluation (R105). -/
theorem record_storeReport_ne (s : State) (n : Nat) (m : Measurement) (serial : Option Nat) {k : Nat} (hk : k ≠ n) :
    (s.storeReport n m serial).record k = s.record k := by
  have hserial : (s.storeSerial n serial).record k = s.record k := by
    unfold State.storeSerial
    split
    · rename_i c _
      exact State.record_modRecord_ne s (fun r => { r with serial := some c }) hk
    · rfl
    · rfl
  exact (State.record_modRecord_ne (s.storeSerial n serial)
    (fun r => { r with measured := some { block := m, source := .gauge }, doubtful := false }) hk).trans hserial

theorem measured_storeReport (s : State) (m : Measurement) (serial : Option Nat) (h1 : 1 ≤ n) (h64 : n ≤ 64) :
    ((s.storeReport n m serial).record n).measured = some { block := m, source := .gauge } := by
  have hwritten : (s.storeReport n m serial).record n
      = { (s.storeSerial n serial).record n with measured := some { block := m, source := .gauge }, doubtful := false } := by
    refine (State.record_modRecord (s.storeSerial n serial) n n
      fun r => { r with measured := some { block := m, source := .gauge }, doubtful := false }).trans ?_
    rw [if_pos ⟨rfl, h1, h64⟩]
  rw [hwritten]

/-- A record just measured, whatever its stage was, is measured and keeps every other law of one (R7, R73, R105). -/
theorem ready_of_measured (records : s.RecordsSafe) (h1 : 1 ≤ n) (hn : n ≤ s.recordCount) {r : Record} (course : (s.record n).CourseKept r)
    {m : Measured} (hm : r.measured = some m) (hrange : m.block.inRange = true) (need : Nat) : ReadyRecord s n { r with ownNeed := some need } := by
  obtain ⟨hcount, -, hposition, hannounced, -, -, htarget, hblocked, hcause, hblock, hpasses, hreopens⟩ :=
    recordSafe_of_recordsSafe records h1 (hn.trans (recordCount_le records))
  refine ⟨hn, ?_, course.position.trans hposition, by rw [hm]; rfl, ?_, rfl, ?_, ?_, ?_, ?_, ?_, ?_⟩
  · simp only [course.stage]
    exact fun hv => absurd (hcount.mp hv) (Nat.not_lt.mpr hn)
  · simp only [hm]
    rintro x ⟨⟩
    exact hrange
  · simpa only [course.stage, course.target] using htarget
  · simpa only [course.stage, course.blocked] using hblocked
  · simpa only [course.stage, course.condemnCause] using hcause
  · simpa only [course.blocked, course.target] using hblock
  · simpa only [course.passesDone] using hpasses
  · simpa only [course.reopenCount] using hreopens

theorem recordsSafe_report (store : s.StoreSafe) (groups : s.GroupsSafe) (records : s.RecordsSafe) (h1 : 1 ≤ n) (hn : n ≤ s.recordCount)
    {m : Measurement} (hrange : m.inRange = true) (serial : Option Nat) : ((s.storeReport n m serial).evaluateMeasured n).RecordsSafe := by
  have hframe := WorkFrame.storeReport s n m serial
  have h64 := hn.trans (recordCount_le records)
  have hmeasured := measured_storeReport s m serial h1 h64
  refine recordsSafe_of_visit records ((planFrame_evaluateMeasured _ n).visit.trans hframe.visit)
    (recordSafe_evaluateMeasured (storeSafe_of_workFrame hframe store) (groupsSafe_storeReport s n m serial groups) h1 h64
      (by rw [hmeasured]; rfl) (fun need => ?_) fun k k1 k64 hk => ?_)
  · exact (ready_of_measured records h1 hn (Record.CourseKept.storeReport s n n m serial) hmeasured hrange need).congr hframe.visit hframe.limits
  · exact recordSafe_congr (record_storeReport_ne s n m serial hk) hframe.visit hframe.limits (recordSafe_of_recordsSafe records k1 k64)

theorem record_storeVerify (s : State) (st : StationId) (n k : Nat) (m : Measurement) : (s.storeVerify st n m).record k =
    if k = n ∧ 1 ≤ n ∧ n ≤ 64 then { s.record n with measured := some { block := m, source := stationSource st }, doubtful := false }
    else s.record k := by
  simp [State.storeVerify, State.modStation_eq, State.modRecord_eq, State.record_setRecord]

/-- The verified mark is no law of a staged record (R140). -/
theorem recordSafe_decideVerified (h1 : 1 ≤ n) (h64 : n ≤ 64) (v : Verdict) (b : Measurement) (safe : ∀ m, 1 ≤ m → m ≤ 64 → s.RecordSafe m)
    (hready : (s.record n).measured.isSome = true) (m : Nat) (m1 : 1 ≤ m) (m64 : m ≤ 64) : (s.decideVerified n v b).RecordSafe m := by
  have hframe := planFrame_modRecord s n fun r => { r with verified := verificationTest s.limits r v b }
  by_cases hm : m = n
  · subst hm
    have hrecord : (s.decideVerified m v b).record m = { s.record m with verified := verificationTest s.limits (s.record m) v b } := by
      unfold State.decideVerified
      rw [State.record_modRecord, if_pos ⟨rfl, h1, h64⟩]
    have hsafe := safe m m1 m64
    have hpresent : (s.record m).stage ≠ .vacant := fun hv => by rw [hsafe.2.1 hv] at hready; cases hready
    have hstaged : (s.record m).stage ≠ .announced := fun ha => by rw [hsafe.2.2.2.1 ha] at hready; cases hready
    obtain ⟨k1, k2, k3, k4, k5, k6, k7, k8, k9, k10, k11, k12⟩ := ready_of_recordSafe hsafe hpresent hstaged
    refine recordSafe_of_ready (ReadyRecord.congr (s := s) ?_ hframe.visit hframe.limits) ?_
    · rw [hrecord]
      exact ⟨k1, k2, k3, k4, k5, k6, k7, k8, k9, k10, k11, k12⟩
    · rw [hrecord]
      exact hstaged
  · exact recordSafe_congr (State.record_modRecord_ne s _ hm) hframe.visit hframe.limits (safe m m1 m64)

theorem recordsSafe_verify (store : s.StoreSafe) (groups : s.GroupsSafe) (holds : s.HoldsSafe) (records : s.RecordsSafe) {st : StationId}
    (hheld : (s.station st).held = some n) {m : Measurement} (hrange : m.inRange = true) :
    ((s.storeVerify st n m).verifyRecord n m).RecordsSafe := by
  obtain ⟨h1, h64⟩ := range_of_held holds hheld
  have hframe := WorkFrame.storeVerify s st n m
  have hn := (heldRecord_of_holdsSafe holds hheld).loaded
  have hmeasured : ((s.storeVerify st n m).record n).measured = some { block := m, source := stationSource st } := by
    rw [record_storeVerify, if_pos ⟨rfl, h1, h64⟩]
  have course := Record.CourseKept.storeVerify s st n n m
  have hcount : (s.storeVerify st n m).recordCount = s.recordCount := recordCount_congr hframe.visit
  have hposition : ((s.storeVerify st n m).record n).position = (s.storeVerify st n m).loadedPosition n := by
    rw [course.position, loadedPosition_congr hframe.visit]
    exact (ready_of_held holds records hheld).1.position
  obtain ⟨a, ha⟩ := exists_assessment (storeSafe_of_workFrame hframe store) h1 (hcount.symm ▸ hn) hposition (by rw [hmeasured]; rfl)
  refine recordsSafe_of_visit records ((planFrame_verifyRecord _ n m).visit.trans hframe.visit) ?_
  have hverify : (s.storeVerify st n m).verifyRecord n m = ((s.storeVerify st n m).evaluateMeasured n).decideVerified n a.verdict m := by
    rw [evaluateMeasured_eq ha]
    simp only [State.verifyRecord, ha]
  rw [hverify]
  refine recordSafe_decideVerified h1 h64 _ _ (recordSafe_evaluateMeasured (storeSafe_of_workFrame hframe store)
    (groupsSafe_storeVerify groups st n m) h1 h64 (by rw [hmeasured]; rfl) (fun need => ?_) fun k k1 k64 hk => ?_) ?_
  · exact (ready_of_measured records h1 hn course hmeasured hrange need).congr hframe.visit hframe.limits
  · have hrecord : (s.storeVerify st n m).record k = s.record k := by rw [record_storeVerify, if_neg fun h => hk h.1]
    exact recordSafe_congr hrecord hframe.visit hframe.limits (recordSafe_of_recordsSafe records k1 k64)
  · rw [evaluateMeasured_eq ha, (Record.PlanKept.evaluate _ n n _).measured]
    have hassessed : ((s.storeVerify st n m).writeAssessment n a).record n
        = { (s.storeVerify st n m).record n with ownNeed := some a.ownNeed, unfit := a.unfit } := by
      unfold State.writeAssessment
      rw [State.record_modRecord, if_pos ⟨rfl, h1, h64⟩]
    rw [hassessed, hmeasured]
    rfl

/-! ## Passes -/

theorem inRange_withDiameters {m : Measured} {st : StationId} {left right : Nat} (h : m.block.inRange = true)
    (hleft : diameterInRange left = true) (hright : diameterInRange right = true) : (m.withDiameters st left right).block.inRange = true := by
  simp only [Measurement.inRange, Wheel.inRange, Measured.withDiameters, Bool.and_eq_true] at h ⊢
  obtain ⟨⟨⟨⟨⟨-, l1⟩, l2⟩, l3⟩, l4⟩, ⟨⟨⟨-, r1⟩, r2⟩, r3⟩, r4⟩ := h
  exact ⟨⟨⟨⟨⟨hleft, l1⟩, l2⟩, l3⟩, l4⟩, ⟨⟨⟨hright, r1⟩, r2⟩, r3⟩, r4⟩

/-- A record at the end of a pass: one pass more, the diameters in range (R13, R126). -/
theorem ready_endPass (holds : s.HoldsSafe) (records : s.RecordsSafe) {st : StationId} (hheld : (s.station st).held = some n)
    (hpass : (s.station st).passInFlight = true) {left right : Nat} (hleft : diameterInRange left = true) (hright : diameterInRange right = true) :
    ReadyRecord s n ((s.endPass st n left right).record n) := by
  obtain ⟨h1, h64⟩ := range_of_held holds hheld
  obtain ⟨k1, k2, k3, k4, k5, k6, k7, k8, k9, k10, -, k12⟩ := (ready_of_held holds records hheld).1
  rw [record_endPass, if_pos ⟨rfl, h1, h64⟩]
  refine ⟨k1, k2, k3, by rw [Option.isSome_map]; exact k4, fun m hm => ?_, k6, k7, k8, k9, k10,
    (heldRecord_of_holdsSafe holds hheld).passes (.inr hpass), k12⟩
  obtain ⟨m', hm', rfl⟩ := Option.map_eq_some_iff.mp hm
  exact inRange_withDiameters (k5 m' hm') hleft hright

theorem recordsSafe_passDone (groups : s.GroupsSafe) (holds : s.HoldsSafe) (records : s.RecordsSafe) {st : StationId}
    (hheld : (s.station st).held = some n) (hpass : (s.station st).passInFlight = true) {left right : Nat}
    (hleft : diameterInRange left = true) (hright : diameterInRange right = true) (d : Nat) :
    ((s.endPass st n left right).diameterTests n d).RecordsSafe := by
  obtain ⟨h1, h64⟩ := range_of_held holds hheld
  have hframe := WorkFrame.endPass s st n left right
  have hready := ready_endPass holds records hheld hpass hleft hright
  have hplanned : ((s.endPass st n left right).record n).stage = .planned := by rw [stage_endPass, planned_of_pass holds hheld hpass]
  have hended : (s.endPass st n left right).RecordsSafe := recordsSafe_of_visit records hframe.visit
    (recordSafe_written records hframe.visit hframe.limits (fun m hm => by rw [record_endPass, if_neg fun h => hm h.1]) hready
      (by rw [hplanned]; decide))
  have hgroups := groupsSafe_endPass groups st n left right
  generalize s.endPass st n left right = u at *
  unfold State.diameterTests
  simp only
  split_ifs
  · exact recordsSafe_of_frame (.flag _ _) (recordsSafe_condemn hended h1 h64 (by rw [hplanned]; rfl) _)
  · have hflagged : (u.flag .overcut).RecordsSafe := recordsSafe_of_frame (.flag _ _) hended
    have hneed := planFrame_modRecord (u.flag .overcut) n fun r => { r with ownNeed := some d }
    have hrecord : ((u.flag .overcut).modRecord n fun r => { r with ownNeed := some d }).record n = { u.record n with ownNeed := some d } := by
      rw [State.record_modRecord, if_pos ⟨rfl, h1, h64⟩, State.record_flag]
    refine recordsSafe_of_visit hflagged (planFrame_evaluateOvercut (u.flag .overcut) n d).visit
      (recordSafe_evaluate (groupsSafe_modRecord _ n _ (fun _ => rfl) (fun _ => rfl) (fun _ => rfl)
        (groupsSafe_of_frame (.flag u .overcut) hgroups)) h1 h64 ?_ fun m m1 m64 hm => ?_)
    · rw [hrecord]
      obtain ⟨k1, k2, k3, k4, k5, -, k7, k8, k9, k10, k11, k12⟩ := hready
      exact ReadyRecord.congr (s := s) ⟨k1, k2, k3, k4, k5, rfl, k7, k8, k9, k10, k11, k12⟩ hframe.visit hframe.limits
    · exact recordSafe_congr (State.record_modRecord_ne _ _ hm) hneed.visit hneed.limits (recordSafe_of_recordsSafe hflagged m1 m64)
  · exact hended

theorem recordsSafe_claim (records : s.RecordsSafe) (h1 : 1 ≤ n) (h64 : n ≤ 64) (hplanned : (s.record n).stage = .planned) (st : StationId) :
    (s.claim st n).RecordsSafe := by
  have hframe := WorkFrame.claim s st n
  have hrecord : ∀ m, (s.claim st n).record m = if m = n ∧ 1 ≤ n ∧ n ≤ 64 then
      { s.record n with hold := .clamped, holder := some st, verified := false } else s.record m := by
    intro m
    simp [State.claim, State.modStation_eq, State.modRecord_eq, State.record_setRecord]
  have hsubject := (hrecord n).trans (if_pos ⟨rfl, h1, h64⟩)
  obtain ⟨k1, k2, k3, k4, k5, k6, k7, k8, k9, k10, k11, k12⟩ := ready_of_rulable records h1 h64 (by rw [hplanned]; rfl)
  refine recordsSafe_of_visit records hframe.visit (recordSafe_written records hframe.visit hframe.limits
    (fun m hm => by rw [hrecord, if_neg fun k => hm k.1]) ?_ ?_)
  · rw [hsubject]
    exact ⟨k1, k2, k3, k4, k5, k6, k7, k8, k9, k10, k11, k12⟩
  · rw [hsubject, hplanned]
    nofun

/-- A released record: FINISHED if PLANNED and verified, and else of its stage (R142). -/
theorem ReadyRecord.released {r : Record} (h : ReadyRecord s n r) (hstaged : r.stage ≠ .announced) :
    ReadyRecord s n r.released ∧ r.released.stage ≠ .announced := by
  by_cases hf : (r.stage == .planned && r.verified) = true
  · have hplanned : r.stage = .planned := by
      rw [Bool.and_eq_true, beq_iff_eq] at hf
      exact hf.1
    have hreleased : r.released = { r with hold := .free, holder := none, verified := false, stage := .finished, blocked := none } := by
      simp only [Record.released, hf, if_true]
    rw [hreleased]
    have hcause : r.condemnCause = none := by
      rw [← Option.not_isSome_iff_eq_none, h.cause, hplanned]
      decide
    refine ⟨⟨h.loaded, nofun, h.position, h.measured, h.inRange, h.ownNeed, fun _ => h.target (.inl hplanned), ⟨nofun, nofun⟩,
      ⟨fun hs => ?_, nofun⟩, nofun, h.passes, h.reopens⟩, nofun⟩
    rw [show _ = none from hcause] at hs
    cases hs
  · have hreleased : r.released = { r with hold := .free, holder := none, verified := false } := by
      simp only [Record.released, hf, if_false, Bool.false_eq_true]
    rw [hreleased]
    obtain ⟨k1, k2, k3, k4, k5, k6, k7, k8, k9, k10, k11, k12⟩ := h
    exact ⟨⟨k1, k2, k3, k4, k5, k6, k7, k8, k9, k10, k11, k12⟩, hstaged⟩

theorem recordsSafe_releaseRecord (holds : s.HoldsSafe) (records : s.RecordsSafe) {st : StationId} (hheld : (s.station st).held = some n) :
    (s.releaseRecord st n).RecordsSafe := by
  obtain ⟨h1, h64⟩ := range_of_held holds hheld
  have hframe := WorkFrame.releaseRecord s st n
  obtain ⟨hready, hstaged⟩ := ready_of_held holds records hheld
  have hsubject := (record_releaseRecord s st n n).trans (if_pos ⟨rfl, h1, h64⟩)
  exact recordsSafe_of_visit records hframe.visit (recordSafe_written records hframe.visit hframe.limits
    (fun m hm => by rw [record_releaseRecord, if_neg fun k => hm k.1]) (hsubject ▸ (hready.released hstaged).1)
    (hsubject ▸ (hready.released hstaged).2))

/-! ## Every move -/

/-- Every move of the table keeps the laws of the records. -/
theorem recordsSafe_move (safe : s.Safe) (h : TableMove s t) : t.RecordsSafe := by
  obtain ⟨-, -, holds, -, records, groups, -, -, store, -⟩ := safe
  cases h
  case same h => exact recordsSafe_of_frame h records
  case limits hno h =>
    have hzero : s.recordCount = 0 := by simp only [State.recordCount, consist_of_noVisit hno, List.length_nil, Nat.mul_zero]
    have hvisit : t.visit = .noVisit := h.visit.trans hno
    exact recordsSafe_of_not_loaded (consist_of_noVisit hvisit) (by simp only [State.isLoaded, hvisit])
      (fun m => (record_congr (s := s) h.records m).trans (record_of_not_loaded records hzero m)) (by rw [hvisit]; nofun)
  case cleared hrecords _ _ _ _ hvisit =>
    exact recordsSafe_of_not_loaded (consist_of_noVisit hvisit) (by simp only [State.isLoaded, hvisit]) hrecords (by rw [hvisit]; nofun)
  case opened id hno hnumber htext h =>
    have hzero : s.recordCount = 0 := by simp only [State.recordCount, consist_of_noVisit hno, List.length_nil, Nat.mul_zero]
    have hvisit : t.visit = .opened id := h.visit
    refine recordsSafe_of_not_loaded (by simp only [State.consist, hvisit]) (by simp only [State.isLoaded, hvisit])
      (fun m => (record_congr (s := s) h.records m).trans (record_of_not_loaded records hzero m)) ?_
    rw [hvisit]
    rintro k ⟨⟩
    exact ⟨hnumber, htext⟩
  case load id cars hopen h1 h16 h => exact recordsSafe_of_frame h (recordsSafe_load records hopen h16 h1)
  case report n m serial h1 hn _ _ hrange _ _ h => exact recordsSafe_of_frame h (recordsSafe_report store groups records h1 hn hrange serial)
  case replan n h1 h64 hstage _ h => exact recordsSafe_of_frame h (recordsSafe_replan store groups records h1 h64 hstage)
  case accept n h1 h64 hstage _ h => exact recordsSafe_of_frame h (recordsSafe_acceptDeviation records h1 h64 hstage)
  case condemn n h1 h64 hstage _ h => exact recordsSafe_of_frame h (recordsSafe_condemn records h1 h64 hstage _)
  case holds hrecords h =>
    refine recordsSafe_of_visit records h.visit fun m m1 m64 => ?_
    have hsafe := recordSafe_of_recordsSafe records m1 m64
    rcases hrecords m with hm | hm
    · exact recordSafe_congr hm h.visit h.limits hsafe
    · exact recordSafe_holdWritten hsafe hm h.visit h.limits
  case claim st n h1 hn _ hstage h =>
    exact recordsSafe_of_frame h (recordsSafe_claim records h1 (hn.trans (recordCount_le records)) hstage st)
  case passDone st n left right hheld hpass hleft hright h =>
    exact recordsSafe_of_frame h (recordsSafe_passDone groups holds records hheld hpass hleft hright _)
  case verify st n m hheld _ hrange h => exact recordsSafe_of_frame h (recordsSafe_verify store groups holds records hheld hrange)
  case release st n hheld h => exact recordsSafe_of_frame h (recordsSafe_releaseRecord holds records hheld)

end

end Sys2Proof.Machine

namespace Sys2Proof.Claims
open Sys2Proof.Machine

/-- Settles O56: a record is staged by the evaluation of its first measurement, and every later write keeps what its stage asks for. -/
theorem stepKeepsRecords : Obligations.StepKeepsRecords :=
  fun _ _ safe h => step_keeps (fun _ _ hs hm => recordsSafe_move hs (tableMove_of_move hs hm)) safe h

end Sys2Proof.Claims
end

section
/-! PROOFS. Every step keeps the laws of the holds: what a station holds and what its record says of it change together (R15, R20, R21, R24,
R116, R123, R144, R177). -/
namespace Sys2Proof.Machine

/-! ## What leaves the holds as they are -/

section
variable {s t : State}

theorem alignedAt_congr (h : t.alignment = s.alignment) (st : StationId) : t.alignedAt st = s.alignedAt st := by
  cases st <;> simp only [State.alignedAt, h]

theorem holdsSafe_of_stations (stations : ∀ st, s.StationSafe st) (records : ∀ n, 1 ≤ n → n ≤ 64 → s.HoldSafe n)
    (enabled : s.phase = .running → s.stationA.enabled = true ∧ s.stationB.enabled = stationBEnabled s.stationMode) : s.HoldsSafe :=
  ⟨stations .a, stations .b, fun n hn => records n ((mem_ordinals n).mp hn).1 ((mem_ordinals n).mp hn).2, enabled⟩

/-- What a held record needs beside its own record: its place in the alignment table, the link, the consist and the store (R13, R144, R159,
R177). -/
structure HeldFrame (s t : State) (st : StationId) : Prop where
  aligned : t.alignedAt st = s.alignedAt st
  link : (s.link (stationLink st)).state = .up → (t.link (stationLink st)).state = .up
  visit : t.visit = s.visit
  limits : t.limits = s.limits
  pages : t.pages = s.pages
  pageStatus : t.pageStatus = s.pageStatus

theorem HeldFrame.of_work (h : WorkFrame s t) (aligned : t.alignment = s.alignment)
    (link : ∀ l, (s.link l).state = .up → (t.link l).state = .up) (st : StationId) : HeldFrame s t st :=
  ⟨alignedAt_congr aligned st, link _, h.visit, h.limits, h.pages, h.pageStatus⟩

/-- What a move needs to leave a held record's laws: the fields of the record that these laws read. -/
theorem HeldRecord.of_frame {st : StationId} {n : Nat} (h : HeldRecord s st n) (frame : HeldFrame s t st)
    (hold : (t.record n).hold = (t.station st).hold) (holder : (t.record n).holder = some st)
    (position : (t.record n).position = (s.record n).position) (cursor : (t.station st).cursor = (s.station st).cursor)
    (grant : (t.station st).grant.isSome = true →
      (t.station st).passInFlight = false ∧ (t.record n).stage = .planned ∧ (t.record n).doubtful = false)
    (passes : (t.station st).grant.isSome = true ∨ (t.station st).passInFlight = true → (t.record n).passesDone < s.limits.maxPasses) :
    HeldRecord t st n where
  ordinal := h.ordinal
  loaded := (recordCount_congr frame.visit).symm ▸ h.loaded
  aligned := frame.aligned.trans h.aligned
  linkUp := frame.link h.linkUp
  holder := holder
  hold := hold
  grant := grant
  passes := frame.limits.symm ▸ passes
  cursor := by
    intro k hk
    rw [cursor] at hk
    rw [Record.profile, position, validProfile_congr frame.pages frame.pageStatus]
    exact h.cursor k hk

/-- A state with the same stations, whose records keep their course and whose held records keep their frame. -/
theorem holdsSafe_of_course (safe : s.HoldsSafe) (phase : t.phase = .running → s.phase = .running) (mode : t.stationMode = s.stationMode)
    (station : ∀ st, t.station st = s.station st) (frame : ∀ st n, (s.station st).held = some n → HeldFrame s t st)
    (course : ∀ m, (s.record m).CourseKept (t.record m)) : t.HoldsSafe := by
  refine holdsSafe_of_stations (fun st => ?_) (fun n h1 h64 => ?_) fun hrun => ?_
  · obtain ⟨hsuspended, hidle, hheld, hdepth⟩ := stationSafe_iff.mp (stationSafe_of_holdsSafe safe st)
    rw [stationSafe_iff, station]
    refine ⟨hsuspended, hidle, fun n hn => ?_, fun d hd => ?_⟩
    · have old := hheld n hn
      have k := course n
      refine old.of_frame (frame st n hn) ?_ (k.holder.trans old.holder) k.position (by rw [station]) (fun hg => ?_) fun hg => ?_
      · rw [k.hold, old.hold, station]
      · rw [station] at hg ⊢
        obtain ⟨hpass, hstage, hsure⟩ := old.grant hg
        refine ⟨hpass, k.stage.trans hstage, ?_⟩
        rw [← Bool.not_eq_true]
        exact fun hd => absurd (k.doubtful hd) (by rw [hsure]; decide)
      · rw [station] at hg
        rw [k.passesDone]
        exact old.passes hg
    · cases hn : (s.station st).held with
      | none =>
        rw [(hidle hn).2.1] at hd
        cases hd
      | some n =>
        rw [(frame st n hn).limits]
        exact hdepth d hd
  · obtain ⟨hfree, hholder, hstands, hverified⟩ := holdSafe_of_holdsSafe safe h1 h64
    have k := course n
    refine ⟨?_, fun st hst => ?_, ?_, fun hv => ?_⟩
    · rw [k.hold, k.holder]
      exact hfree
    · rw [station]
      rw [k.holder] at hst
      exact hholder st hst
    · rw [k.hold, k.stage]
      exact hstands
    · rw [k.hold, k.stage]
      rw [k.verified] at hv
      exact hverified hv
  · have henabled := safe.2.2.2 (phase hrun)
    have hA : t.stationA = s.stationA := station .a
    have hB : t.stationB = s.stationB := station .b
    rw [hA, hB, mode]
    exact henabled

/-- Where nothing is held the laws speak of the idle stations and of free records alone. -/
theorem holdsSafe_of_free
    (station : ∀ st, (s.station st).held = none ∧ (s.station st).passInFlight = false ∧ (s.station st).suspended = false
      ∧ (s.station st).grant = none ∧ (s.station st).cursor = none)
    (record : ∀ m, (s.record m).hold = .free ∧ (s.record m).holder = none ∧ (s.record m).verified = false)
    (enabled : s.phase = .running → s.stationA.enabled = true ∧ s.stationB.enabled = stationBEnabled s.stationMode) : s.HoldsSafe := by
  refine holdsSafe_of_stations (fun st => ?_) (fun n _ _ => ?_) enabled
  · obtain ⟨hheld, hpass, hsuspended, hgrant, hcursor⟩ := station st
    rw [stationSafe_iff, hheld, hpass, hsuspended, hgrant, hcursor]
    exact ⟨nofun, fun _ => ⟨rfl, rfl, rfl⟩, nofun, nofun⟩
  · obtain ⟨hhold, hholder, hverified⟩ := record n
    simp [State.HoldSafe, hhold, hholder, hverified, Hold.standsWith]

theorem idle_of_free (safe : s.HoldsSafe) (free : ∀ m, (s.record m).hold = .free) (st : StationId) :
    (s.station st).held = none ∧ (s.station st).passInFlight = false ∧ (s.station st).suspended = false
      ∧ (s.station st).grant = none ∧ (s.station st).cursor = none := by
  have hnone : (s.station st).held = none :=
    Option.eq_none_iff_forall_ne_some.mpr fun n hn => hold_ne_free_of_held safe hn (free n)
  obtain ⟨hpass, hgrant, hcursor⟩ := idle_of_not_held safe hnone
  refine ⟨hnone, hpass, ?_, hgrant, hcursor⟩
  rw [← Bool.not_eq_true]
  exact fun hs => absurd (suspended_in_flight safe hs) (by rw [hpass]; decide)

/-- A verified record is held, and PLANNED (R15). -/
theorem held_of_verified (safe : s.HoldsSafe) {m : Nat} (h : (s.record m).verified = true) :
    (s.record m).hold ≠ .free ∧ (s.record m).stage = .planned := by
  have hrange : 1 ≤ m ∧ m ≤ 64 := by
    by_contra hout
    rw [State.record_outside s m hout] at h
    cases h
  exact (holdSafe_of_holdsSafe safe hrange.1 hrange.2).2.2.2 h

/-! ## Planning -/

/-- The fields of a record that say who holds it, and where it stands in the train. -/
structure Record.HolderKept (r r' : Record) : Prop where
  position : r'.position = r.position
  hold : r'.hold = r.hold
  holder : r'.holder = r.holder
  doubtful : r'.doubtful = r.doubtful

theorem Record.PlanKept.holderKept {r r' : Record} (h : r.PlanKept r') : r.HolderKept r' := ⟨h.position, h.hold, h.holder, h.doubtful⟩

/-- Planning keeps the laws of the holds where it leaves hold, holder and position, clears grants or leaves them, lets no hold stand with a
stage it may not, and touches no granted record. -/
theorem holdsSafe_of_plan (frame : PlanFrame s t) (safe : s.HoldsSafe)
    (grant : ∀ st, (t.station st).grant = (s.station st).grant ∨ (t.station st).grant = none)
    (kept : ∀ m, (s.record m).HolderKept (t.record m))
    (stands : ∀ m, (s.record m).hold ≠ .free → (s.record m).hold.standsWith (s.record m).stage = true →
      (s.record m).hold.standsWith (t.record m).stage = true)
    (verified : ∀ m, (t.record m).verified = true → (s.record m).hold ≠ .free ∧ (t.record m).stage = .planned)
    (course : ∀ st n, (s.station st).held = some n → (s.station st).passInFlight = true ∨ (t.station st).grant.isSome = true →
      (t.record n).passesDone = (s.record n).passesDone ∧ ((s.record n).stage = .planned → (t.record n).stage = .planned)) : t.HoldsSafe := by
  have station := frame.station
  have hgrant : ∀ st, (t.station st).grant.isSome = true → (s.station st).grant.isSome = true := by
    intro st h
    rcases grant st with k | k
    · rwa [k] at h
    · rw [k] at h
      cases h
  refine holdsSafe_of_stations (fun st => ?_) (fun n h1 h64 => ?_) fun hrun => ?_
  · obtain ⟨hsuspended, hidle, hheld, hdepth⟩ := stationSafe_iff.mp (stationSafe_of_holdsSafe safe st)
    have hpass : (t.station st).passInFlight = (s.station st).passInFlight := by rw [station]
    rw [stationSafe_iff]
    refine ⟨fun h => ?_, fun h => ?_, fun n hn => ?_, fun d hd => ?_⟩
    · rw [hpass]
      exact hsuspended (by rwa [station] at h)
    · obtain ⟨k1, k2, k3⟩ := hidle (by rwa [frame.held] at h)
      refine ⟨hpass.trans k1, ?_, by rw [station]; exact k3⟩
      rw [← Option.not_isSome_iff_eq_none]
      exact fun hg => by
        have := hgrant st hg
        rw [k2] at this
        cases this
    · rw [frame.held] at hn
      have old := hheld n hn
      refine old.of_frame ⟨alignedAt_congr frame.alignment st, by rw [frame.link]; exact id, frame.visit, frame.limits, frame.pages,
        frame.pageStatus⟩ ?_ ((kept n).holder.trans old.holder) (kept n).position (by rw [station]) (fun hg => ?_) fun hg => ?_
      · rw [(kept n).hold, old.hold, station]
        rfl
      · obtain ⟨k1, k2, k3⟩ := old.grant (hgrant st hg)
        exact ⟨hpass.trans k1, (course st n hn (.inr hg)).2 k2, (kept n).doubtful.trans k3⟩
      · rw [hpass] at hg
        rw [(course st n hn hg.symm).1]
        exact old.passes (hg.imp_left (hgrant st))
    · rw [frame.limits]
      rcases grant st with k | k
      · exact hdepth d (by rwa [k] at hd)
      · rw [k] at hd
        cases hd
  · obtain ⟨hfree, hholder, hstands, -⟩ := holdSafe_of_holdsSafe safe h1 h64
    have k := kept n
    refine ⟨?_, fun st hst => ?_, ?_, fun hv => ?_⟩
    · rw [k.hold, k.holder]
      exact hfree
    · rw [frame.held]
      rw [k.holder] at hst
      exact hholder st hst
    · rw [k.hold]
      by_cases hf : (s.record n).hold = .free
      · rw [hf]
        rfl
      · exact stands n hf hstands
    · rw [k.hold]
      exact verified n hv
  · have henabled := safe.2.2.2 (frame.phase.symm.trans hrun)
    have hA : t.stationA.enabled = s.stationA.enabled := show (t.station .a).enabled = (s.station .a).enabled by rw [station]
    have hB : t.stationB.enabled = s.stationB.enabled := show (t.station .b).enabled = (s.station .b).enabled by rw [station]
    rw [hA, hB, frame.stationMode]
    exact henabled

/-- A subject of an evaluation: FREE, or CLAMPED with no grant standing (R74, R105, R129, R140). -/
abbrev State.Subject (s : State) (n : Nat) : Prop :=
  (s.record n).hold = .free ∨ ((s.record n).hold = .clamped ∧ ∀ st, (s.station st).held = some n → (s.station st).grant = none)

/-- No pass is in flight on the subject of an evaluation, and no grant stands on it. -/
theorem idle_of_subject {n : Nat} (safe : s.HoldsSafe) (subject : s.Subject n) {st : StationId} (hheld : (s.station st).held = some n) :
    (s.station st).passInFlight = false ∧ (s.station st).grant = none := by
  have old := (heldRecord_of_holdsSafe safe hheld).hold
  rcases subject with hfree | ⟨hclamped, hgrant⟩
  · exact absurd hfree (hold_ne_free_of_held safe hheld)
  · refine ⟨?_, hgrant st hheld⟩
    rw [hclamped, StationContext.hold] at old
    cases hpass : (s.station st).passInFlight with
    | false => rfl
    | true => cases hs : (s.station st).suspended <;> rw [hpass, hs] at old <;> cases old

theorem grant_clearHolderGrant (s : State) (n : Nat) (st : StationId) :
    ((s.clearHolderGrant n).station st).grant = (s.station st).grant ∨ ((s.clearHolderGrant n).station st).grant = none := by
  rw [State.clearHolderGrant_eq]
  split
  · exact .inl rfl
  · rename_i q _
    by_cases hq : st = q
    · exact .inr (by rw [hq, State.station_setStation_same])
    · exact .inl (by rw [State.station_setStation_ne _ _ _ _ hq])

/-- A condemnation or a block of a subject keeps the laws of the holds (R21, R24). -/
theorem holdsSafe_ruled {n : Nat} (frame : PlanFrame s t) (safe : s.HoldsSafe) (subject : s.Subject n)
    (grant : ∀ st, (t.station st).grant = ((s.clearHolderGrant n).station st).grant) (kept : ∀ m, (s.record m).PlanKept (t.record m))
    (others : ∀ m, m ≠ n → t.record m = s.record m) (stands : Hold.clamped.standsWith (t.record n).stage = true)
    (unverified : (t.record n).verified = false) : t.HoldsSafe := by
  have hgrant : ∀ st, (t.station st).grant = (s.station st).grant ∨ (t.station st).grant = none := fun st => by
    rw [grant]
    exact grant_clearHolderGrant s n st
  refine holdsSafe_of_plan frame safe hgrant (fun m => (kept m).holderKept) (fun m hm hstands => ?_) (fun m hv => ?_) fun st k hk hg => ?_
  · by_cases hmn : m = n
    · rw [hmn] at hm ⊢
      rcases subject with hfree | ⟨hclamped, -⟩
      · exact absurd hfree hm
      · rw [hclamped]
        exact stands
    · rw [others m hmn]
      exact hstands
  · by_cases hmn : m = n
    · rw [hmn, unverified] at hv
      cases hv
    · rw [others m hmn] at hv ⊢
      exact held_of_verified safe hv
  · by_cases hkn : k = n
    · obtain ⟨hpass, hnone⟩ := idle_of_subject safe subject (hkn ▸ hk)
      rcases hg with hg | hg
      · rw [hpass] at hg
        cases hg
      · rcases hgrant st with h | h <;> rw [h] at hg
        · rw [hnone] at hg
          cases hg
        · cases hg
    · rw [others k hkn]
      exact ⟨rfl, id⟩

theorem holdsSafe_condemn {n : Nat} (safe : s.HoldsSafe) (subject : s.Subject n) (h1 : 1 ≤ n) (h64 : n ≤ 64) (c : CondemnCause) :
    (s.condemn n c).HoldsSafe := by
  have hsubject := (record_condemn s n n c).trans (if_pos ⟨rfl, h1, h64⟩)
  refine holdsSafe_ruled (planFrame_condemn s n c) safe subject (fun st => ?_) (fun m => Record.PlanKept.condemn s n m c)
    (fun m hm => by rw [record_condemn, if_neg fun h => hm h.1]) ?_ ?_
  · cases st <;> rfl
  · rw [hsubject]
    rfl
  · rw [hsubject]

theorem holdsSafe_block {n : Nat} (safe : s.HoldsSafe) (subject : s.Subject n) (h1 : 1 ≤ n) (h64 : n ≤ 64) (d : Nat) (o : Nat × BlockReason) :
    (s.block n d o).HoldsSafe := by
  have hsubject := (record_block s n n d o).trans (if_pos ⟨rfl, h1, h64⟩)
  refine holdsSafe_ruled (planFrame_block s n d o) safe subject (fun st => ?_) (fun m => ?_)
    (fun m hm => by rw [record_block, if_neg fun h => hm h.1]) ?_ ?_
  · cases st <;> rfl
  · rw [record_block]
    split
    · rename_i hm
      rw [hm.1]
      exact ⟨rfl, rfl, rfl, rfl, rfl, rfl, rfl, rfl⟩
    · exact .refl _
  · rw [hsubject]
    rfl
  · rw [hsubject]

/-- A held record that is lowered keeps its stage and its passes: it was not FINISHED (R21, R63). -/
theorem lowered_of_held {v : LimitValues} {r : Record} {d : Nat} (hs : r.stage ≠ .finished) :
    (r.lowered v d).stage = r.stage ∧ (r.lowered v d).passesDone = r.passesDone := by
  have hno : wouldReopen v r d = false := by simp [wouldReopen, hs]
  rw [Record.lowered_of_stands hno]
  exact ⟨rfl, rfl⟩

/-- The subject of an applied evaluation that is held stays PLANNED (R65). -/
theorem planned_of_applied {v : LimitValues} {r : Record} {h : Handed} {d : Nat} (hheld : r.hold ≠ .free) : (r.applied v h d).stage = .planned := by
  have hno : ¬ finishes v r h d = true := fun hf => hheld ((finishes_iff v r h d).mp hf).1
  rw [Record.applied_eq]
  exact if_neg hno

theorem verified_of_applied {v : LimitValues} {r : Record} {h : Handed} {d : Nat} (hv : (r.applied v h d).verified = true) :
    r.verified = true := by
  rw [Record.applied_eq, Bool.and_eq_true] at hv
  exact hv.1

theorem verified_of_lowered {v : LimitValues} {r : Record} {d : Nat} (hv : (r.lowered v d).verified = true) :
    r.verified = true ∧ r.hold = .free := by
  have hverified : (r.lowered v d).verified = (r.verified && r.hold == Hold.free) := by
    cases hre : wouldReopen v r d with
    | true => rw [Record.lowered_of_reopens hre]
    | false => rw [Record.lowered_of_stands hre]
  rw [hverified, Bool.and_eq_true, beq_iff_eq] at hv
  exact hv

theorem holdsSafe_applyEvaluation {n d : Nat} {h : Handed} (groups : s.GroupsSafe) (safe : s.HoldsSafe) (subject : s.Subject n) (h1 : 1 ≤ n)
    (h64 : n ≤ 64) : (s.applyEvaluation n h d (s.lowerings n d)).HoldsSafe := by
  have hstation : ∀ st, (s.applyEvaluation n h d (s.lowerings n d)).station st = s.station st := fun st => by
    rw [applyEvaluation_eq]
    cases st <;> rfl
  have hunfinished : ∀ m, (s.record m).hold ≠ .free → (s.record m).stage ≠ .finished := fun m hm hf => hm (free_of_finished safe m hf)
  refine holdsSafe_of_plan (planFrame_applyEvaluation s n h d _) safe (fun st => .inl (by rw [hstation]))
    (fun m => (Record.PlanKept.applyEvaluation s n d m h _).holderKept) (fun m hm hstands => ?_) (fun m hv => ?_) fun st k hk hg => ?_
  · rcases record_applyEvaluation_cases (t := d) h groups h1 h64 m with ⟨hmn, hrecord⟩ | ⟨-, hrecord⟩ | ⟨-, l, -, -, hrecord⟩
    · rw [hmn] at hm hrecord ⊢
      rw [hrecord, planned_of_applied hm]
      cases (s.record n).hold <;> rfl
    · rw [hrecord]
      exact hstands
    · rw [hrecord, (lowered_of_held (hunfinished m hm)).1]
      exact hstands
  · rcases record_applyEvaluation_cases (t := d) h groups h1 h64 m with ⟨hmn, hrecord⟩ | ⟨-, hrecord⟩ | ⟨-, l, -, -, hrecord⟩
    · rw [hmn] at hrecord ⊢
      rw [hmn, hrecord] at hv
      have hheld := (held_of_verified safe (verified_of_applied hv)).1
      rw [hrecord]
      exact ⟨hheld, planned_of_applied hheld⟩
    · rw [hrecord] at hv ⊢
      exact held_of_verified safe hv
    · rw [hrecord] at hv
      exact absurd (verified_of_lowered hv).2 (held_of_verified safe (verified_of_lowered hv).1).1
  · rw [hstation] at hg
    rcases record_applyEvaluation_cases (t := d) h groups h1 h64 k with ⟨hkn, -⟩ | ⟨-, hrecord⟩ | ⟨-, l, -, -, hrecord⟩
    · obtain ⟨hpass, hnone⟩ := idle_of_subject safe subject (hkn ▸ hk)
      rcases hg with hg | hg
      · rw [hpass] at hg
        cases hg
      · rw [hnone] at hg
        cases hg
    · rw [hrecord]
      exact ⟨rfl, id⟩
    · obtain ⟨hstage, hpasses⟩ := lowered_of_held (v := s.limits) (d := l.target) (hunfinished k (hold_ne_free_of_held safe hk))
      rw [hrecord, hstage, hpasses]
      exact ⟨rfl, id⟩

theorem holdsSafe_evaluate {n : Nat} {h : Handed} (groups : s.GroupsSafe) (safe : s.HoldsSafe) (subject : s.Subject n) (h1 : 1 ≤ n) (h64 : n ≤ 64) :
    (s.evaluate n h).HoldsSafe := by
  rcases evaluate_cases s n h with ⟨-, he⟩ | ⟨-, he⟩ | ⟨o, -, -, he⟩ | ⟨-, -, he⟩ <;> rw [he]
  · exact safe
  · exact holdsSafe_condemn safe subject h1 h64 _
  · exact holdsSafe_block safe subject h1 h64 _ o
  · exact holdsSafe_applyEvaluation groups safe subject h1 h64

/-- A write of records that keeps their course, and nothing else, keeps the laws of the holds. -/
theorem holdsSafe_modRecord (safe : s.HoldsSafe) (n : Nat) {f : Record → Record} (hf : ∀ r : Record, r.CourseKept (f r)) : (s.modRecord n f).HoldsSafe :=
  holdsSafe_of_course safe id rfl (fun _ => rfl) (fun st _ _ => .of_work (.setRecord s n _) rfl (fun _ => id) st)
    fun m => Record.CourseKept.modRecord s n m hf

theorem subject_modRecord {n : Nat} (subject : s.Subject n) {f : Record → Record} (hf : ∀ r : Record, r.CourseKept (f r)) :
    (s.modRecord n f).Subject n := by
  have hhold := (Record.CourseKept.modRecord s n n hf).hold
  exact subject.imp (fun h => hhold.trans h) fun h => ⟨hhold.trans h.1, h.2⟩

theorem holdsSafe_evaluateMeasured {n : Nat} (groups : s.GroupsSafe) (safe : s.HoldsSafe) (subject : s.Subject n) (h1 : 1 ≤ n) (h64 : n ≤ 64) :
    (s.evaluateMeasured n).HoldsSafe := by
  unfold State.evaluateMeasured
  split
  · exact safe
  · have hf : ∀ (a : Assessment) (r : Record), r.CourseKept { r with ownNeed := some a.ownNeed, unfit := a.unfit } :=
      fun _ _ => ⟨rfl, rfl, rfl, rfl, rfl, rfl, rfl, rfl, rfl, rfl, rfl, id⟩
    exact holdsSafe_evaluate (groupsSafe_writeAssessment s n _ groups) (holdsSafe_modRecord safe n (hf _)) (subject_modRecord subject (hf _)) h1 h64

theorem holdsSafe_acceptDeviation {n : Nat} (safe : s.HoldsSafe) (hfree : (s.record n).hold = .free) : (s.acceptDeviation n).HoldsSafe := by
  have hstation : ∀ st, (s.acceptDeviation n).station st = s.station st := fun st => by
    unfold State.acceptDeviation
    simp only
    split <;> cases st <;> rfl
  have hrecord : ∀ m, (s.record m).hold ≠ .free → (s.acceptDeviation n).record m = s.record m := fun m hm => by
    rw [record_acceptDeviation, if_neg fun h : m = n ∧ 1 ≤ n ∧ n ≤ 64 => hm (by rw [h.1, hfree])]
  refine holdsSafe_of_plan (planFrame_acceptDeviation s n) safe (fun st => .inl (by rw [hstation])) (fun m => ?_)
    (fun m hm hstands => by rw [hrecord m hm]; exact hstands) (fun m hv => ?_) fun st k hk _ => ?_
  · rw [record_acceptDeviation]
    split
    · rename_i h
      rw [h.1]
      exact ⟨rfl, rfl, rfl, rfl⟩
    · exact ⟨rfl, rfl, rfl, rfl⟩
  · have hverified : (s.record m).verified = true := by
      rw [record_acceptDeviation] at hv
      split at hv
      · rename_i h
        rw [h.1]
        exact hv
      · exact hv
    have hheld := held_of_verified safe hverified
    rw [hrecord m hheld.1]
    exact hheld
  · rw [hrecord k (hold_ne_free_of_held safe hk)]
    exact ⟨rfl, id⟩

end

end Sys2Proof.Machine
end

section
/-! PROOFS. The writes of a station and its record, and the moves, against the laws of the holds. -/
namespace Sys2Proof.Machine

section
variable {s t : State}

/-- A state with the same stations, records and alignment table keeps the laws of the holds. -/
theorem holdsSafe_of_work (safe : s.HoldsSafe) (frame : WorkFrame s t) (station : ∀ st, t.station st = s.station st)
    (alignment : t.alignment = s.alignment) (link : ∀ l, (s.link l).state = .up → (t.link l).state = .up)
    (record : ∀ m, t.record m = s.record m) : t.HoldsSafe :=
  holdsSafe_of_course safe (fun h => frame.phase.symm.trans h) frame.stationMode station (fun st _ _ => .of_work frame alignment link st)
    fun m => by rw [record]; exact .refl _

/-! ## One station and one record -/

/-- A write of one station and of one record, which no other station holds: the laws of the two are all that is left to show. -/
theorem holdsSafe_write {st : StationId} {n : Nat} {c : StationContext} {r : Record} (stations : ∀ q, q ≠ st → s.StationSafe q)
    (records : ∀ m, 1 ≤ m → m ≤ 64 → s.HoldSafe m)
    (running : s.phase = .running → s.stationA.enabled = true ∧ s.stationB.enabled = stationBEnabled s.stationMode)
    (holder : (s.record n).holder = none ∨ (s.record n).holder = some st) (heldn : ∀ m, (s.station st).held = some m → m = n)
    (enabled : c.enabled = (s.station st).enabled) (own : ((s.setStation st c).setRecord n r).StationSafe st)
    (record : ((s.setStation st c).setRecord n r).HoldSafe n) : ((s.setStation st c).setRecord n r).HoldsSafe := by
  have hother : ∀ m, m ≠ n → ((s.setStation st c).setRecord n r).record m = s.record m := fun m hm => by
    rw [State.record_setRecord_ne _ _ _ _ hm, State.record_setStation]
  have hstation : ∀ q, q ≠ st → ((s.setStation st c).setRecord n r).station q = s.station q := fun q hq => by
    rw [State.station_setRecord, State.station_setStation_ne _ _ _ _ hq]
  refine holdsSafe_of_stations (fun q => ?_) (fun m m1 m64 => ?_) fun hrun => ?_
  · by_cases hq : q = st
    · exact hq ▸ own
    · obtain ⟨hsuspended, hidle, hheld, hdepth⟩ := stationSafe_iff.mp (stations q hq)
      rw [stationSafe_iff, hstation q hq]
      refine ⟨hsuspended, hidle, fun k hk => ?_, by simpa using hdepth⟩
      have old := hheld k hk
      have hkn : k ≠ n := fun h => by
        have hq' := old.holder
        rw [h] at hq'
        rcases holder with h | h <;> rw [h] at hq'
        · cases hq'
        · exact hq (Option.some.inj hq').symm
      refine old.of_frame ⟨by simp, by simp, by simp, by simp, by simp, by simp⟩ (by rw [hstation q hq, hother k hkn, old.hold])
        (by rw [hother k hkn, old.holder]) (by rw [hother k hkn]) (by rw [hstation q hq]) (fun hg => ?_) fun hg => ?_
      · rw [hstation q hq] at hg ⊢
        rw [hother k hkn]
        exact old.grant hg
      · rw [hstation q hq] at hg
        rw [hother k hkn]
        exact old.passes hg
  · by_cases hmn : m = n
    · exact hmn ▸ record
    · obtain ⟨hfree, hholder, hstands, hverified⟩ := records m m1 m64
      refine ⟨by rw [hother m hmn]; exact hfree, fun q hq => ?_, by rw [hother m hmn]; exact hstands, by rw [hother m hmn]; exact hverified⟩
      rw [hother m hmn] at hq
      by_cases hqs : q = st
      · exact absurd (heldn m (hqs ▸ hholder q hq)) hmn
      · rw [hstation q hqs]
        exact hholder q hq
  · obtain ⟨hA, hB⟩ := running (by simpa using hrun)
    cases st
    · exact ⟨enabled.trans hA, hB⟩
    · exact ⟨hA, enabled.trans hB⟩

/-- A write of a station that goes on holding its record, with that record: no grant stands after it (R20, R24). -/
theorem holdsSafe_heldWrite {st : StationId} {n : Nat} {c : StationContext} {r : Record} (safe : s.HoldsSafe)
    (hheld : (s.station st).held = some n) (enabled : c.enabled = (s.station st).enabled) (held : c.held = some n) (grant : c.grant = none)
    (suspended : c.suspended = true → c.passInFlight = true) (cursor : c.cursor = (s.station st).cursor) (hold : r.hold = c.hold)
    (holder : r.holder = (s.record n).holder) (position : r.position = (s.record n).position) (stands : r.hold.standsWith r.stage = true)
    (verified : r.verified = true → r.stage = .planned) (passes : c.passInFlight = true → r.passesDone < s.limits.maxPasses) :
    ((s.setStation st c).setRecord n r).HoldsSafe := by
  obtain ⟨h1, h64⟩ := range_of_held safe hheld
  have old := heldRecord_of_holdsSafe safe hheld
  have hrecord : ((s.setStation st c).setRecord n r).record n = r := State.record_setRecord_same _ _ _ h1 h64
  have hstation : ((s.setStation st c).setRecord n r).station st = c := by rw [State.station_setRecord, State.station_setStation_same]
  refine holdsSafe_write (fun q _ => stationSafe_of_holdsSafe safe q) (fun m m1 m64 => holdSafe_of_holdsSafe safe m1 m64) safe.2.2.2
    (.inr old.holder) (fun m hm => Option.some.inj (hm.symm.trans hheld)) enabled ?_ ?_
  · rw [stationSafe_iff, hstation]
    refine ⟨suspended, fun h => absurd (held.symm.trans h) nofun, fun k hk => ?_, fun d hd => absurd (grant.symm.trans hd) nofun⟩
    obtain rfl : n = k := Option.some.inj (held.symm.trans hk)
    refine old.of_frame ⟨by simp, by simp, by simp, by simp, by simp, by simp⟩ (by rw [hrecord, hstation, hold])
      (by rw [hrecord, holder, old.holder]) (by rw [hrecord, position]) (by rw [hstation, cursor]) (fun hg => ?_) fun hg => ?_
    · rw [hstation, grant] at hg
      cases hg
    · rw [hstation, grant] at hg
      rw [hrecord]
      exact passes (hg.resolve_left nofun)
  · unfold State.HoldSafe
    simp only [hrecord]
    refine ⟨⟨fun hf => absurd (hold.symm.trans hf) (StationContext.hold_ne_free c), fun hn => ?_⟩, fun q hq => ?_, stands, fun hv => ?_⟩
    · rw [holder, old.holder] at hn
      cases hn
    · rw [holder, old.holder] at hq
      obtain rfl : st = q := Option.some.inj hq
      rw [hstation]
      exact held
    · exact ⟨fun hf => StationContext.hold_ne_free c (hold.symm.trans hf), verified hv⟩

/-- A write of a station that lets its record go, with that record (R23, R142). -/
theorem holdsSafe_freeWrite {st : StationId} {n : Nat} {c : StationContext} {r : Record} (stations : ∀ q, q ≠ st → s.StationSafe q)
    (records : ∀ m, 1 ≤ m → m ≤ 64 → s.HoldSafe m)
    (running : s.phase = .running → s.stationA.enabled = true ∧ s.stationB.enabled = stationBEnabled s.stationMode)
    (h1 : 1 ≤ n) (h64 : n ≤ 64) (hholder : (s.record n).holder = some st) (hheld : (s.station st).held = some n)
    (enabled : c.enabled = (s.station st).enabled) (held : c.held = none) (grant : c.grant = none) (pass : c.passInFlight = false)
    (suspended : c.suspended = true → c.passInFlight = true) (cursor : c.cursor = none) (hold : r.hold = .free) (holder : r.holder = none)
    (verified : r.verified = false) : ((s.setStation st c).setRecord n r).HoldsSafe := by
  have hrecord : ((s.setStation st c).setRecord n r).record n = r := State.record_setRecord_same _ _ _ h1 h64
  have hstation : ((s.setStation st c).setRecord n r).station st = c := by rw [State.station_setRecord, State.station_setStation_same]
  refine holdsSafe_write stations records running (.inr hholder) (fun m hm => Option.some.inj (hm.symm.trans hheld)) enabled ?_ ?_
  · rw [stationSafe_iff, hstation, held, grant]
    exact ⟨suspended, fun _ => ⟨pass, rfl, cursor⟩, nofun, nofun⟩
  · unfold State.HoldSafe
    simp [hrecord, hold, holder, verified, Hold.standsWith]

/-! ## The requests of a station -/

section
variable {st : StationId} {n : Nat}

/-- While a pass is in flight no grant stands (R24, R124). -/
theorem no_grant_of_pass (safe : s.HoldsSafe) (hheld : (s.station st).held = some n) (hpass : (s.station st).passInFlight = true) :
    (s.station st).grant = none := by
  rw [← Option.not_isSome_iff_eq_none]
  exact fun hg => absurd ((heldRecord_of_holdsSafe safe hheld).grant hg).1 (by rw [hpass]; decide)

theorem holder_unique (safe : s.HoldsSafe) {q : StationId} (hheld : (s.station st).held = some n) (hq : (s.station q).held = some n) : q = st :=
  Option.some.inj ((heldRecord_of_holdsSafe safe hq).holder.symm.trans (heldRecord_of_holdsSafe safe hheld).holder)

theorem holdsSafe_startPass (safe : s.HoldsSafe) (hheld : (s.station st).held = some n) (hgrant : (s.station st).grant.isSome = true) :
    (s.startPass st n).HoldsSafe := by
  have old := heldRecord_of_holdsSafe safe hheld
  obtain ⟨hpass, hplanned, -⟩ := old.grant hgrant
  have hgoing : (s.station st).suspended = false := by
    rw [← Bool.not_eq_true]
    exact fun hs => absurd (suspended_in_flight safe hs) (by rw [hpass]; decide)
  have hwrite := holdsSafe_heldWrite (c := { s.station st with grant := none, passInFlight := true, watch := s.limits.watchReload })
    (r := { s.record n with hold := .cutting }) safe hheld rfl hheld rfl (fun _ => rfl) rfl
    (by simp only [StationContext.hold, hgoing]) rfl rfl (by rw [hplanned]; rfl) (fun hv => (held_of_verified safe hv).2)
    (fun _ => old.passes (.inl hgrant))
  simpa only [State.startPass, State.modStation_eq, State.modRecord_eq, State.record_setStation] using hwrite

theorem holdsSafe_endPass (safe : s.HoldsSafe) (hheld : (s.station st).held = some n) (hpass : (s.station st).passInFlight = true)
    (left right : Nat) : (s.endPass st n left right).HoldsSafe := by
  have hplanned := planned_of_pass safe hheld hpass
  have hwrite := holdsSafe_heldWrite (c := { s.station st with passInFlight := false, suspended := false })
    (r := { s.record n with hold := .clamped, passesDone := (s.record n).passesDone + 1, verified := false,
                            measured := (s.record n).measured.map fun m => m.withDiameters st left right })
    safe hheld rfl hheld (no_grant_of_pass safe hheld hpass) nofun rfl rfl rfl rfl (by rw [hplanned]; rfl) nofun nofun
  simpa only [State.endPass, State.modStation_eq, State.modRecord_eq, State.record_setStation] using hwrite

theorem hold_of_idle (safe : s.HoldsSafe) (hheld : (s.station st).held = some n) (hidle : (s.station st).passInFlight = false) :
    (s.record n).hold = .clamped := by
  rw [(heldRecord_of_holdsSafe safe hheld).hold, StationContext.hold, hidle]

theorem holdsSafe_storeVerify (safe : s.HoldsSafe) (hheld : (s.station st).held = some n) (hidle : (s.station st).passInFlight = false)
    (m : Measurement) : (s.storeVerify st n m).HoldsSafe := by
  obtain ⟨h1, h64⟩ := range_of_held safe hheld
  have hclamped := hold_of_idle safe hheld hidle
  have hwrite := holdsSafe_heldWrite (c := { s.station st with grant := none })
    (r := { s.record n with measured := some { block := m, source := stationSource st }, doubtful := false }) safe hheld rfl hheld rfl
    (fun hs => suspended_in_flight safe hs) rfl (heldRecord_of_holdsSafe safe hheld).hold rfl rfl
    (holdSafe_of_holdsSafe safe h1 h64).2.2.1 (fun hv => (held_of_verified safe hv).2) (fun hp => absurd hp (by rw [hidle]; decide))
  simpa only [State.storeVerify, State.modStation_eq, State.modRecord_eq, State.record_setStation] using hwrite

/-- The subject of the evaluation after an overcut, and of the one after a VERIFY: CLAMPED, its holder's grant gone (R129, R140). -/
theorem subject_of_held {u : State} (safe : u.HoldsSafe) (hheld : (u.station st).held = some n) (hidle : (u.station st).passInFlight = false)
    (hgrant : (u.station st).grant = none) : u.Subject n :=
  .inr ⟨hold_of_idle safe hheld hidle, fun _ hq => holder_unique safe hheld hq ▸ hgrant⟩

theorem holdsSafe_diameterTests (groups : s.GroupsSafe) (safe : s.HoldsSafe) (subject : s.Subject n) (h1 : 1 ≤ n) (h64 : n ≤ 64) (d : Nat) :
    (s.diameterTests n d).HoldsSafe := by
  have hflag : ∀ k, (s.flag k).HoldsSafe := fun _ => safe
  have hneed : ∀ r : Record, r.CourseKept { r with ownNeed := some d } := fun _ => ⟨rfl, rfl, rfl, rfl, rfl, rfl, rfl, rfl, rfl, rfl, rfl, id⟩
  unfold State.diameterTests
  simp only
  split_ifs
  · have hcondemned := holdsSafe_condemn safe subject h1 h64 .overcut
    exact hcondemned
  · exact holdsSafe_evaluate (groupsSafe_modRecord _ n _ (fun _ => rfl) (fun _ => rfl) (fun _ => rfl) (groupsSafe_of_frame (.flag s .overcut) groups))
      (holdsSafe_modRecord (hflag .overcut) n hneed) (subject_modRecord (s := s.flag .overcut) subject hneed) h1 h64
  · exact safe

theorem holdsSafe_decideVerified (safe : s.HoldsSafe) (hheld : (s.record n).hold ≠ .free) (v : Verdict) (m : Measurement) :
    (s.decideVerified n v m).HoldsSafe := by
  have hrecord : ∀ k, (s.decideVerified n v m).record k = if k = n ∧ 1 ≤ n ∧ n ≤ 64 then
      { s.record n with verified := verificationTest s.limits (s.record n) v m } else s.record k := fun k => State.record_modRecord s n k _
  refine holdsSafe_of_plan (planFrame_modRecord s n _) safe (fun _ => .inl rfl) (fun k => ?_) (fun k hk hstands => ?_) (fun k hv => ?_)
    fun q k _ _ => ?_
  · rw [hrecord]
    split
    · rename_i h
      rw [h.1]
      exact ⟨rfl, rfl, rfl, rfl⟩
    · exact ⟨rfl, rfl, rfl, rfl⟩
  · rw [hrecord]
    split
    · rename_i h
      rw [h.1] at hstands ⊢
      exact hstands
    · exact hstands
  · rw [hrecord] at hv ⊢
    split at hv
    · rename_i h
      rw [if_pos h, h.1]
      refine ⟨hheld, ?_⟩
      unfold verificationTest at hv
      split at hv
      · cases hv
      · simp only [Bool.and_eq_true, beq_iff_eq] at hv
        exact hv.1.1.1.1.1
    · rename_i h
      rw [if_neg h]
      exact held_of_verified safe hv
  · rw [hrecord]
    split
    · rename_i h
      rw [h.1]
      exact ⟨rfl, id⟩
    · exact ⟨rfl, id⟩

theorem holdsSafe_verifyRecord (groups : s.GroupsSafe) (safe : s.HoldsSafe) (subject : s.Subject n) (hheld : (s.record n).hold ≠ .free)
    (h1 : 1 ≤ n) (h64 : n ≤ 64) (m : Measurement) : (s.verifyRecord n m).HoldsSafe := by
  unfold State.verifyRecord
  split
  · exact holdsSafe_decideVerified safe hheld _ m
  · rename_i a _
    have hf : ∀ r : Record, r.CourseKept { r with ownNeed := some a.ownNeed, unfit := a.unfit } :=
      fun _ => ⟨rfl, rfl, rfl, rfl, rfl, rfl, rfl, rfl, rfl, rfl, rfl, id⟩
    refine holdsSafe_decideVerified (holdsSafe_evaluate (groupsSafe_writeAssessment s n a groups) (holdsSafe_modRecord safe n hf)
      (subject_modRecord subject hf) h1 h64) ?_ _ m
    rw [(Record.PlanKept.evaluate _ n n _).hold, (Record.CourseKept.writeAssessment s n n a).hold]
    exact hheld

/-- A CLAIM of an aligned record that nothing holds (R119, R120). -/
theorem holdsSafe_claim (safe : s.HoldsSafe) (h1 : 1 ≤ n) (hn : n ≤ s.recordCount) (h64 : n ≤ 64) (haligned : s.alignedAt st = some n)
    (hnone : (s.station st).held = none) (hfree : (s.record n).hold = .free) (hplanned : (s.record n).stage = .planned)
    (hup : (s.link (stationLink st)).state = .up) : (s.claim st n).HoldsSafe := by
  obtain ⟨hpass, hgrant, hcursor⟩ := idle_of_not_held safe hnone
  have hholder : (s.record n).holder = none := (holdSafe_of_holdsSafe safe h1 h64).1.mp hfree
  have hwrite : ((s.setStation st { s.station st with held := some n }).setRecord n
      { s.record n with hold := .clamped, holder := some st, verified := false }).HoldsSafe := by
    refine holdsSafe_write (fun q _ => stationSafe_of_holdsSafe safe q) (fun m m1 m64 => holdSafe_of_holdsSafe safe m1 m64) safe.2.2.2
      (.inl hholder) (fun m hm => absurd (hnone.symm.trans hm) nofun) rfl ?_ ?_
    · rw [stationSafe_iff]
      simp only [State.station_setRecord, State.station_setStation_same, hpass, hgrant, hcursor]
      refine ⟨fun hs => (absurd (suspended_in_flight safe hs) (by rw [hpass]; decide)), nofun, fun k hk => ?_, nofun⟩
      obtain rfl : n = k := Option.some.inj hk
      exact ⟨h1, by simpa using hn, by simpa using haligned, by simpa using hup,
        by rw [State.record_setRecord_same _ _ _ h1 h64],
        by rw [State.record_setRecord_same _ _ _ h1 h64, State.station_setRecord, State.station_setStation_same, StationContext.hold],
        by simp, by simp, by simp⟩
    · unfold State.HoldSafe
      simp only [State.record_setRecord_same _ _ _ h1 h64, State.station_setRecord, hplanned]
      refine ⟨⟨nofun, nofun⟩, fun q hq => ?_, rfl, nofun⟩
      obtain rfl : st = q := Option.some.inj hq
      rw [State.station_setStation_same]
  have hclaim : s.claim st n = State.unlist ((s.setStation st { s.station st with held := some n }).setRecord n
      { s.record n with hold := .clamped, holder := some st, verified := false }) n := by
    simp only [State.claim, State.modStation_eq, State.modRecord_eq, State.record_setStation]
  rw [hclaim]
  exact hwrite

theorem holdsSafe_holdFreed (safe : s.HoldsSafe) : s.holdFreed.HoldsSafe := by
  rcases s.holdFreed_cases with ⟨-, hA, hB, h⟩ | ⟨-, h⟩ <;> rw [h]
  · refine holdsSafe_of_course safe id rfl (fun q => by cases q <;> rfl) (fun q n hn => ?_) fun m => .refl _
    cases q
    · exact absurd (hA.symm.trans hn) nofun
    · exact absurd (hB.symm.trans hn) nofun
  · exact safe

theorem holdsSafe_releaseRecord (safe : s.HoldsSafe) (hheld : (s.station st).held = some n) (hidle : (s.station st).passInFlight = false)
    (hclosed : (s.station st).cursor = none) : (s.releaseRecord st n).HoldsSafe := by
  obtain ⟨h1, h64⟩ := range_of_held safe hheld
  have hwrite := holdsSafe_freeWrite (c := { s.station st with held := none, grant := none }) (r := (s.record n).released)
    (fun q _ => stationSafe_of_holdsSafe safe q) (fun m m1 m64 => holdSafe_of_holdsSafe safe m1 m64) safe.2.2.2 h1 h64
    (heldRecord_of_holdsSafe safe hheld).holder hheld rfl rfl rfl hidle (suspended_in_flight safe) hclosed rfl rfl rfl
  unfold State.releaseRecord
  simp only [State.modStation_eq, State.modRecord_eq, State.record_setStation]
  split
  · exact hwrite
  · exact hwrite

end

end

end Sys2Proof.Machine
end

section
/-! PROOFS. The moves against the laws of the holds. -/
namespace Sys2Proof.Machine

section
variable {s t : State}

/-! ## Orders, watches and link resets -/

theorem holdsSafe_setLink (safe : s.HoldsSafe) (l : LinkId) (c : LinkContext) (h : (s.link l).state = .up → c.state = .up) :
    (s.setLink l c).HoldsSafe := by
  refine holdsSafe_of_work safe (.setLink s l c) (fun st => State.station_setLink ..) (by simp) (fun q hq => ?_) fun m => State.record_setLink ..
  by_cases hql : q = l
  · rw [hql, State.link_setLink_same]
    exact h (hql ▸ hq)
  · rw [State.link_setLink_ne _ _ _ _ hql]
    exact hq

theorem holdsSafe_sendOrder (safe : s.HoldsSafe) (st : StationId) (o : Order) (n : Nat) : (s.sendOrder st o n).HoldsSafe := by
  refine holdsSafe_setLink safe _ _ fun h => ?_
  show ((s.link (stationLink st)).order o n).state = .up
  rw [LinkContext.order_outgoing]
  exact h

/-- A pass halted or resumed: the station's mark and its record's hold change together (R135, R136). -/
theorem holdsSafe_suspend {st : StationId} (safe : s.HoldsSafe) (hpass : (s.station st).passInFlight = true) (halted : Bool) (h : Hold)
    (hh : h = if halted then .suspended else .cutting) : ((s.modStation st fun c => { c with suspended := halted }).setHold st h).HoldsSafe := by
  cases hheld : (s.station st).held with
  | none =>
    have := (idle_of_not_held safe hheld).1
    rw [hpass] at this
    cases this
  | some n =>
    have hplanned := planned_of_pass safe hheld hpass
    have hset : (s.modStation st fun c => { c with suspended := halted }).setHold st h
        = (s.setStation st { s.station st with suspended := halted }).setRecord n { s.record n with hold := h } := by
      simp only [State.setHold, State.modStation_eq, State.station_setStation_same, hheld, State.modRecord_eq, State.record_setStation]
    rw [hset]
    refine holdsSafe_heldWrite safe hheld rfl hheld (no_grant_of_pass safe hheld hpass) (fun _ => hpass) rfl ?_ rfl rfl ?_ (fun _ => hplanned)
      fun _ => (heldRecord_of_holdsSafe safe hheld).passes (.inr hpass)
    · cases halted <;> simp [StationContext.hold, hpass, hh]
    · rw [hplanned, hh]
      cases halted <;> rfl

theorem holdsSafe_expire {st : StationId} {n : Nat} (safe : s.HoldsSafe) (hheld : (s.station st).held = some n)
    (hpass : (s.station st).passInFlight = true) : (s.expire st).HoldsSafe := by
  have hplanned := planned_of_pass safe hheld hpass
  have hwrite : ((s.setStation st (s.station st).expired).setRecord n (s.record n).abandoned).HoldsSafe :=
    holdsSafe_heldWrite safe hheld rfl hheld rfl nofun rfl rfl rfl rfl
      (by rw [show (s.record n).abandoned.stage = .planned from hplanned]; rfl) nofun nofun
  have hexpire : s.expire st = State.sendOrder (((s.setStation st (s.station st).expired).setRecord n (s.record n).abandoned).flag .passOverrun)
      st .abandon (s.heldOrdinal st) := by
    simp only [State.expire, State.abandonRecord, hheld, State.modStation_eq, State.modRecord_eq, State.station_setRecord,
      State.setRecord_setStation]
  rw [hexpire]
  have hflag : (((s.setStation st (s.station st).expired).setRecord n (s.record n).abandoned).flag .passOverrun).HoldsSafe := hwrite
  exact holdsSafe_sendOrder hflag st _ _

theorem holdsSafe_countDown (safe : s.HoldsSafe) (st : StationId) : (s.countDown st).HoldsSafe := by
  rcases s.countDown_cases st with ⟨-, h⟩ | ⟨hcounting, -, h⟩ | ⟨-, -, h⟩ <;> rw [h]
  · exact safe
  · have hpass : (s.station st).passInFlight = true := by
      simp only [StationContext.counting, Bool.and_eq_true] at hcounting
      tauto
    cases hheld : (s.station st).held with
    | none =>
      have := (idle_of_not_held safe hheld).1
      rw [hpass] at this
      cases this
    | some n => exact holdsSafe_expire safe hheld hpass
  · refine holdsSafe_setStation safe rfl rfl ?_
    obtain ⟨hsuspended, hidle, hheld, hdepth⟩ := stationSafe_iff.mp (stationSafe_of_holdsSafe safe st)
    rw [stationSafe_iff]
    simp only [State.station_setStation_same, State.limits_setStation]
    refine ⟨hsuspended, hidle, fun n hn => ?_, hdepth⟩
    have old := hheld n hn
    exact old.of_frame ⟨by simp, by simp, by simp, by simp, by simp, by simp⟩
      (by rw [State.record_setStation, State.station_setStation_same]; exact old.hold) (by rw [State.record_setStation]; exact old.holder)
      (by rw [State.record_setStation]) (by rw [State.station_setStation_same]) (by simpa using old.grant) (by simpa using old.passes)

/-- A station link's reset lets its record go; the other station's link and record stand (R23, R146, R179). -/
theorem holdsSafe_resetStation (safe : s.HoldsSafe) (st : StationId) (c : LinkContext) :
    ((s.setLink (stationLink st) c).resetStation st).HoldsSafe := by
  have hstation : ∀ q, (s.setLink (stationLink st) c).station q = s.station q := fun q => State.station_setLink ..
  have hlink : ∀ q, q ≠ st → stationLink q ≠ stationLink st := by cases st <;> intro q <;> cases q <;> simp [stationLink]
  have hframe : ∀ q, q ≠ st → HeldFrame s (s.setLink (stationLink st) c) q := fun q hq =>
    ⟨by simp, by rw [State.link_setLink_ne _ _ _ _ (hlink q hq)]; exact id, by simp, by simp, by simp, by simp⟩
  unfold State.resetStation
  rw [hstation]
  split
  · rename_i hnone
    have hlinked : (s.setLink (stationLink st) c).HoldsSafe :=
      holdsSafe_of_course safe (by simp) (by simp) hstation (fun q n hn => hframe q fun hq => by rw [hq, hnone] at hn; cases hn)
        fun m => by rw [State.record_setLink]; exact .refl _
    refine holdsSafe_setStation hlinked rfl (by rw [hstation, hnone]; rfl) ?_
    rw [stationSafe_iff, State.station_setStation_same]
    exact ⟨nofun, fun _ => ⟨rfl, rfl, rfl⟩, nofun, nofun⟩
  · rename_i n hheld
    obtain ⟨h1, h64⟩ := range_of_held safe hheld
    refine holdsSafe_holdFreed ?_
    refine holdsSafe_freeWrite (s := s.setLink (stationLink st) c) (fun q hq => ?_) (fun m m1 m64 => ?_) (by simpa using safe.2.2.2) h1 h64 ?_
      (by rw [hstation]; exact hheld) rfl rfl rfl rfl nofun rfl rfl rfl rfl
    · obtain ⟨hsuspended, hidle, hold, hdepth⟩ := stationSafe_iff.mp (stationSafe_of_holdsSafe safe q)
      rw [stationSafe_iff, hstation]
      refine ⟨hsuspended, hidle, fun k hk => ?_, by simpa using hdepth⟩
      have old := hold k hk
      exact old.of_frame (hframe q hq) (by rw [State.record_setLink, hstation]; exact old.hold)
        (by rw [State.record_setLink]; exact old.holder) (by rw [State.record_setLink]) (by rw [hstation])
        (by rw [State.record_setLink, hstation]; exact old.grant) (by rw [State.record_setLink, hstation]; exact old.passes)
    · obtain ⟨k1, k2, k3, k4⟩ := holdSafe_of_holdsSafe safe m1 m64
      have hrecord : (s.setLink (stationLink st) c).record m = s.record m := State.record_setLink ..
      refine ⟨by rw [hrecord]; exact k1, fun q hq => ?_, by rw [hrecord]; exact k3, by rw [hrecord]; exact k4⟩
      rw [hstation]
      exact k2 q (by rwa [hrecord] at hq)
    · rw [State.record_setLink]
      exact (heldRecord_of_holdsSafe safe hheld).holder

theorem holdsSafe_resetLink (safe : s.HoldsSafe) (l : LinkId) : ((s.modLink l LinkContext.flush).resetOwner l).HoldsSafe := by
  have hother : ∀ l, (∀ q, stationLink q ≠ l) → (s.modLink l LinkContext.flush).HoldsSafe := fun l hl =>
    holdsSafe_of_course safe (by simp [State.modLink_eq]) (by simp [State.modLink_eq]) (fun q => State.station_setLink ..)
      (fun q n _ => ⟨by simp [State.modLink_eq], by rw [State.modLink_eq, State.link_setLink_ne _ _ _ _ (hl q)]; exact id,
        by simp [State.modLink_eq], by simp [State.modLink_eq], by simp [State.modLink_eq], by simp [State.modLink_eq]⟩)
      fun m => by rw [State.modLink_eq, State.record_setLink]; exact .refl _
  cases l
  · exact hother .gauge (by intro q; cases q <;> decide)
  · exact holdsSafe_resetStation safe .a _
  · exact holdsSafe_resetStation safe .b _
  · have hlinked := hother .mover (by intro q; cases q <;> decide)
    generalize s.modLink .mover LinkContext.flush = u at hlinked ⊢
    refine holdsSafe_of_course hlinked id rfl (fun q => by cases q <;> rfl) (fun q n hn => ⟨?_, ?_, rfl, rfl, rfl, rfl⟩) fun m => .refl _
    · cases q
      · have hA : u.stationA.held.isSome = true := by rw [show u.stationA.held = some n from hn]; rfl
        exact if_pos hA
      · have hB : u.stationB.held.isSome = true := by rw [show u.stationB.held = some n from hn]; rfl
        exact if_pos hB
    · cases q <;> exact id

/-! ## Where nothing is held -/

/-- No record is held where none is loaded. -/
theorem free_of_not_loaded (records : s.RecordsSafe) (h : s.recordCount = 0) (m : Nat) :
    (s.record m).hold = .free ∧ (s.record m).holder = none ∧ (s.record m).verified = false := by
  rw [record_of_not_loaded records h]
  exact ⟨rfl, rfl, rfl⟩

/-- With the stations as they were and nothing held, whatever else has changed, the laws of the holds stand. -/
theorem holdsSafe_of_unheld (safe : s.HoldsSafe) (free : ∀ m, (s.record m).hold = .free) (phase : t.phase = .running → s.phase = .running)
    (mode : t.stationMode = s.stationMode) (station : ∀ st, t.station st = s.station st)
    (record : ∀ m, (t.record m).hold = .free ∧ (t.record m).holder = none ∧ (t.record m).verified = false) : t.HoldsSafe := by
  refine holdsSafe_of_free (fun st => station st ▸ idle_of_free safe free st) record fun hrun => ?_
  have hA : t.stationA = s.stationA := station .a
  have hB : t.stationB = s.stationB := station .b
  rw [hA, hB, mode]
  exact safe.2.2.2 (phase hrun)

theorem recordCount_of_noVisit (h : s.visit = .noVisit) : s.recordCount = 0 := by
  simp only [State.recordCount, consist_of_noVisit h, List.length_nil, Nat.mul_zero]

/-- With no visit open, or none loaded, only the stations and the records matter. -/
theorem holdsSafe_of_noVisit (safe : s.HoldsSafe) (records : s.RecordsSafe) (h : s.recordCount = 0) (phase : t.phase = .running → s.phase = .running)
    (mode : t.stationMode = s.stationMode) (station : ∀ st, t.station st = s.station st) (table : t.records = s.records) : t.HoldsSafe :=
  holdsSafe_of_unheld safe (fun m => (free_of_not_loaded records h m).1) phase mode station fun m => by
    rw [record_congr table]
    exact free_of_not_loaded records h m

/-- No record is held where no hold stands in the way of a close (R94). -/
theorem free_of_recordHeld (h : s.recordHeld = false) (m : Nat) : (s.record m).hold = .free := by
  by_cases hm : 1 ≤ m ∧ m ≤ 64
  · have hany := List.any_eq_false.mp h m ((mem_ordinals m).mpr hm)
    simpa using hany
  · rw [State.record_outside s m hm]
    rfl

/-! ## Host commands and requests -/

theorem holdsSafe_acknowledgeMask (safe : s.HoldsSafe) (mask : Nat) : (s.acknowledgeMask mask).HoldsSafe := by
  unfold State.acknowledgeMask
  generalize allSources = ks
  induction ks generalizing s with
  | nil => exact safe
  | cons k rest ih =>
    refine ih (s := if maskNames mask k then s.acknowledge k else s) ?_
    split <;> exact safe

theorem holdsSafe_host {u : State} (safe : s.Safe) (h : HostEffect s u) : u.HoldsSafe := by
  obtain ⟨-, -, holds, -, records, groups, -, -, store, -⟩ := safe
  cases h
  case unchanged => exact holds
  case acknowledge mask => exact holdsSafe_acknowledgeMask holds mask
  case program => exact holds
  case replan n h1 h64 _ hfree => exact holdsSafe_evaluateMeasured groups holds (.inl hfree) h1 h64
  case accept n _ _ _ hfree => exact holdsSafe_acceptDeviation holds hfree
  case condemn n h1 h64 _ hfree => exact holdsSafe_condemn holds (.inl hfree) h1 h64 _
  case openVisit id hno _ _ _ _ =>
    exact holdsSafe_of_noVisit holds records (recordCount_of_noVisit hno) (fun h => h) rfl (fun _ => rfl) rfl
  case load id cars hopen _ _ _ =>
    have hzero : s.recordCount = 0 := recordCount_of_not_loaded (by simp only [State.isLoaded, hopen])
    refine holdsSafe_of_unheld holds (fun m => (free_of_not_loaded records hzero m).1) (fun h => h) rfl (fun st => by cases st <;> rfl) fun m => ?_
    rw [record_load]
    split
    · exact ⟨rfl, rfl, rfl⟩
    · exact free_of_not_loaded records hzero m
  case window => exact holds
  case close _ hfree =>
    refine holdsSafe_of_unheld holds (free_of_recordHeld hfree) id rfl (fun st => by cases st <;> rfl) fun m => ?_
    rw [show s.close.record m = Record.vacant from tableGet_replicate m]
    exact ⟨rfl, rfl, rfl⟩
  case halt st hpass _ => exact holdsSafe_sendOrder (holdsSafe_suspend holds hpass true _ rfl) st _ _
  case resume st hpass _ => exact holdsSafe_sendOrder (holdsSafe_suspend holds hpass false _ rfl) st _ _
  case resetLink l _ => exact holdsSafe_resetLink holds l
  case openCatalogue => exact holds
  case closeCatalogue => exact holds
  case stage => exact holds
  case commit => exact holds
  case abort n hwrite =>
    exact holdsSafe_of_noVisit holds records (recordCount_of_noVisit (noVisit_of_writeInFlight store hwrite).1) id rfl (fun _ => rfl) rfl

theorem holdsSafe_storeReport (safe : s.HoldsSafe) (n : Nat) (m : Measurement) (serial : Option Nat) : (s.storeReport n m serial).HoldsSafe := by
  have halignment : (s.storeReport n m serial).alignment = s.alignment := by
    unfold State.storeReport State.storeSerial
    split <;> rfl
  have hstation : ∀ st, (s.storeReport n m serial).station st = s.station st := by
    intro st
    unfold State.storeReport State.storeSerial
    split <;> cases st <;> rfl
  have hframe := WorkFrame.storeReport s n m serial
  exact holdsSafe_of_course safe (fun h => hframe.phase.symm.trans h) hframe.stationMode hstation
    (fun st _ _ => .of_work hframe halignment (fun l => by rw [link_storeReport]; exact id) st) fun k => Record.CourseKept.storeReport s n k m serial

theorem holdsSafe_request {u : State} {l : LinkId} (safe : s.Safe) (hup : (s.link l).state = .up) (h : RequestEffect s l u) : u.HoldsSafe := by
  obtain ⟨-, -, holds, motion, records, groups, -⟩ := safe
  have ⟨_, _, _, _, hpresent, _, _, _⟩ := motion
  cases h
  case unchanged => exact holds
  case reportRefused => exact holds
  case reportConflict => exact holds
  case report n m serial haligned _ _ _ _ _ =>
    have hn := hpresent n (by rw [Alignment.present, haligned]; simp)
    have hfree := (Record.CourseKept.storeReport s n n m serial).hold.trans (free_of_gauge holds motion haligned)
    exact holdsSafe_evaluateMeasured (groupsSafe_storeReport s n m serial groups) (holdsSafe_storeReport holds n m serial) (.inl hfree) hn.1
      (hn.2.trans (recordCount_le records))
  case aligned a _ hfree _ _ =>
    refine holdsSafe_of_course holds id rfl (fun _ => rfl) (fun st n hn => ?_) fun m => .refl _
    rw [(anyHeld_eq_false_iff s).mp hfree st] at hn
    cases hn
  case claim st n _ haligned hnone hplanned =>
    have hn := hpresent n (mem_present_of_alignedAt haligned)
    exact holdsSafe_claim holds hn.1 hn.2 (hn.2.trans (recordCount_le records)) haligned hnone (free_of_alignedAt holds motion haligned hnone)
      hplanned hup
  case grant st n depth hheld hplanned hsure hidle hpasses h1 hmax =>
    refine holdsSafe_setStation holds rfl rfl ?_
    obtain ⟨hsuspended, hnone, hold, -⟩ := stationSafe_iff.mp (stationSafe_of_holdsSafe holds st)
    have old := hold n hheld
    have hready := (ready_of_held holds records hheld).1
    rw [stationSafe_iff]
    simp only [State.station_setStation_same, State.limits_setStation]
    refine ⟨hsuspended, fun h => absurd (hheld.symm.trans h) nofun, fun k hk => ?_, fun d hd => ?_⟩
    · obtain rfl : n = k := Option.some.inj (hheld.symm.trans hk)
      exact old.of_frame ⟨by simp, by simp, by simp, by simp, by simp, by simp⟩
        (by rw [State.record_setStation, State.station_setStation_same]; exact old.hold) (by rw [State.record_setStation]; exact old.holder)
        (by rw [State.record_setStation]) (by rw [State.station_setStation_same])
        (by simp [hidle, hplanned, hsure]) (by simpa using Nat.lt_of_le_of_ne hready.passes hpasses)
    · obtain rfl : depth = d := Option.some.inj hd
      exact ⟨h1, hmax⟩
  case startPass st n depth hheld hgrant => exact holdsSafe_startPass holds hheld (by rw [hgrant]; rfl)
  case passDone st n left right hheld hpass _ _ =>
    obtain ⟨h1, h64⟩ := range_of_held holds hheld
    have hended := holdsSafe_endPass holds hheld hpass left right
    have hcontext : (s.endPass st n left right).station st = { s.station st with passInFlight := false, suspended := false } := by
      simp [State.endPass, State.modStation_eq, State.modRecord_eq]
    exact holdsSafe_diameterTests (groupsSafe_endPass groups st n left right) hended
      (subject_of_held hended (by rw [hcontext]; exact hheld) (by rw [hcontext]) (by rw [hcontext]; exact no_grant_of_pass holds hheld hpass)) h1 h64 _
  case verify st n m hheld hidle _ =>
    obtain ⟨h1, h64⟩ := range_of_held holds hheld
    have hstored := holdsSafe_storeVerify holds hheld hidle m
    have hcontext : (s.storeVerify st n m).station st = { s.station st with grant := none } := by
      simp [State.storeVerify, State.modStation_eq, State.modRecord_eq]
    have hstill : ((s.storeVerify st n m).station st).held = some n := by rw [hcontext]; exact hheld
    exact holdsSafe_verifyRecord (groupsSafe_storeVerify groups st n m) hstored
      (subject_of_held hstored hstill (by rw [hcontext]; exact hidle) (by rw [hcontext])) (hold_ne_free_of_held hstored hstill) h1 h64 m
  case release st n hheld hidle hclosed => exact holdsSafe_holdFreed (holdsSafe_releaseRecord holds hheld hidle hclosed)
  case cursor st new hvalid =>
    refine holdsSafe_setStation holds rfl rfl ?_
    obtain ⟨hsuspended, hnone, hold, hdepth⟩ := stationSafe_iff.mp (stationSafe_of_holdsSafe holds st)
    rw [stationSafe_iff]
    simp only [State.station_setStation_same, State.limits_setStation]
    refine ⟨hsuspended, fun h => ⟨(hnone h).1, (hnone h).2.1, ?_⟩, fun n hn => ?_, hdepth⟩
    · refine Option.eq_none_iff_forall_ne_some.mpr fun k hk => ?_
      rcases (hvalid k hk).2 with ⟨n, hn, -⟩ | ⟨old, hold, -⟩
      · exact absurd (h.symm.trans hn) nofun
      · exact absurd ((hnone h).2.2.symm.trans hold) nofun
    · have old := hold n hn
      refine ⟨old.ordinal, by simpa using old.loaded, by simpa using old.aligned, by simpa using old.linkUp, by simpa using old.holder,
        by simpa [StationContext.hold] using old.hold, by simpa using old.grant, by simpa using old.passes, fun k hk => ?_⟩
      rw [State.station_setStation_same] at hk
      rw [State.record_setStation, State.validProfile_setStation]
      refine ⟨?_, (hvalid k hk).1⟩
      rcases (hvalid k hk).2 with ⟨m, hm, hprofile⟩ | ⟨k', hk', hprofile⟩
      · obtain rfl : n = m := Option.some.inj (hn.symm.trans hm)
        exact hprofile
      · exact hprofile.trans (old.cursor k' hk').1

/-! ## Every move -/

theorem holdsSafe_flagStarts (safe : t.HoldsSafe) : (State.flagStarts s t).HoldsSafe := by
  have hframe := LinkFrame.flagStarts s t
  exact holdsSafe_of_work safe (workFrame_flagStarts s t) hframe.station hframe.alignment (fun l => by rw [link_flagStarts]; exact id)
    (record_congr hframe.records)

theorem holdsSafe_recordFault (safe : s.HoldsSafe) (l : LinkId) (cause : FaultCause) : (s.recordFault l cause).HoldsSafe := by
  have hset := holdsSafe_setLink safe l { s.link l with fault := cause } id
  exact hset

theorem holdsSafe_interfaceAnswer (safe : s.HoldsSafe) (l : LinkId) (f : CellFrame) (r : Reply) : (s.interfaceAnswer l f r).HoldsSafe := by
  refine holdsSafe_setLink safe l _ fun h => ?_
  obtain ⟨out, hout⟩ := interfaceAnswer_outgoing (s.link l) f.kind (f.tag.setWidth 4) r
  show ((s.link l).interfaceAnswer f.kind (f.tag.setWidth 4) r).state = .up
  rw [hout]
  exact h

theorem holdsSafe_discardMalformed (safe : s.HoldsSafe) (l : LinkId) : (s.discardMalformed l).HoldsSafe := by
  unfold State.discardMalformed
  split
  · exact safe
  · exact holdsSafe_recordFault safe l _

/-- No arrival takes an UP link down (R170, R176). -/
theorem holdsSafe_dispose (safe : s.HoldsSafe) (l : LinkId) (f : CellFrame) (d : Disposition) : (s.dispose l f d).HoldsSafe := by
  cases d
  case malformed => exact holdsSafe_discardMalformed safe l
  case disabled => exact holdsSafe_interfaceAnswer safe l f _
  case starting => exact holdsSafe_interfaceAnswer safe l f _
  case unknown => exact holdsSafe_interfaceAnswer (holdsSafe_recordFault safe l _) l f _
  case helloTaken =>
    simp only [State.dispose, State.helloAtArrival]
    split
    · have hup := holdsSafe_setLink safe l { s.link l with state := .up, fault := .none } fun _ => rfl
      have hflag : (State.flag (s.modLink l fun c => { c with state := .up, fault := .none }) .linkUp).HoldsSafe := hup
      exact holdsSafe_interfaceAnswer hflag l f _
    · exact holdsSafe_interfaceAnswer safe l f _
  case linkReset => exact holdsSafe_interfaceAnswer safe l f _
  case inboxFull => exact holdsSafe_interfaceAnswer (holdsSafe_recordFault safe l _) l f _
  case admitted k => exact holdsSafe_setLink safe l _ id

/-- The stations and the records of a part that does not run (R17, R117, R197). -/
theorem unheld_before_work (quiet : s.QuietSafe) (h : s.phase ≠ .running) :
    (∀ st, (s.station st).held = none ∧ (s.station st).passInFlight = false ∧ (s.station st).suspended = false
      ∧ (s.station st).grant = none ∧ (s.station st).cursor = none)
      ∧ ∀ m, s.record m = Record.vacant := by
  cases hp : s.phase with
  | running => exact absurd hp h
  | resetAsserted =>
    rw [quiet.1 hp]
    exact ⟨fun st => by cases st <;> exact ⟨rfl, rfl, rfl, rfl, rfl⟩, tableGet_replicate⟩
  | starting =>
    rw [quiet.2 hp]
    exact ⟨fun st => by cases st <;> exact ⟨rfl, rfl, rfl, rfl, rfl⟩, tableGet_replicate⟩

/-- At the end of start-up the stations take part as the strap says (R117, R148). -/
theorem holdsSafe_startUp (quiet : s.QuietSafe) (hp : s.phase = .starting) : s.endStartUp.HoldsSafe := by
  obtain ⟨hidle, hvacant⟩ := unheld_before_work quiet (by rw [hp]; decide)
  have hstation : ∀ st, s.endStartUp.station st = s.station st := fun st => by rw [endStartUp_eq]; split <;> cases st <;> rfl
  have hrecord : ∀ m, s.endStartUp.record m = s.record m := fun m => by rw [endStartUp_eq]; split <;> rfl
  have hmode : s.endStartUp.stationMode = s.stationMode := by rw [endStartUp_eq]; split <;> rfl
  refine holdsSafe_of_free (fun st => hstation st ▸ hidle st) (fun m => ?_) fun _ => ?_
  · rw [hrecord, hvacant]
    exact ⟨rfl, rfl, rfl⟩
  · have hA : s.endStartUp.stationA = s.stationA := hstation .a
    have hB : s.endStartUp.stationB = s.stationB := hstation .b
    have henabled : s.stationA.enabled = true ∧ s.stationB.enabled = stationBEnabled s.stationMode := by
      constructor
      · rw [quiet.2 hp]
        rfl
      · conv_lhs => rw [quiet.2 hp]
        rfl
    rw [hA, hB, hmode]
    exact henabled

theorem holdsSafe_rise (safe : s.HoldsSafe) : (State.takeRise { s with moveRequest := true }).HoldsSafe := by
  unfold State.takeRise
  split
  case isTrue => exact safe
  case isFalse hfree =>
    have hnone := (anyHeld_eq_false_iff s).mp (Bool.not_eq_true _ ▸ hfree)
    exact holdsSafe_of_course safe id rfl (fun q => by cases q <;> rfl) (fun q n hn => absurd ((hnone q).symm.trans hn) nofun) fun m => .refl _

/-- Every move of a safe part keeps the laws of the holds. -/
theorem holdsSafe_move (safe : s.Safe) (h : Move s t) : t.HoldsSafe := by
  have ⟨quiet, _, holds, _, records, _, _, _, store, _⟩ := safe
  cases h
  case idle => exact holds
  case window => exact holds
  case reset =>
    refine holdsSafe_of_free (fun st => by cases st <;> exact ⟨rfl, rfl, rfl, rfl, rfl⟩) (fun m => ?_) nofun
    have hvacant : State.record { State.reset with pages := s.pagesAfterReset, moveRequest := s.moveRequest, pending := s.pending } m
        = Record.vacant := tableGet_replicate m
    rw [hvacant]
    exact ⟨rfl, rfl, rfl⟩
  case resetEnd strap hreset =>
    obtain ⟨hidle, hvacant⟩ := unheld_before_work quiet (by rw [hreset]; decide)
    refine holdsSafe_of_free (fun st => ?_) (fun m => ?_) nofun
    · cases st
      · exact hidle .a
      · exact hidle .b
    have hkept : State.record { s with
        phase := .starting, stationMode := strap, stationA := { s.stationA with enabled := true },
        stationB := { s.stationB with enabled := stationBEnabled strap }, linkB := { s.linkB with state := linkBState strap } } m
        = Record.vacant := hvacant m
    rw [hkept]
    exact ⟨rfl, rfl, rfl⟩
  case startUp hp => exact holdsSafe_startUp quiet hp
  case level => exact holds
  case rise => exact holdsSafe_flagStarts (holdsSafe_rise holds)
  case fall => exact holds
  case pulse st => exact holdsSafe_countDown holds st
  case tick => exact holdsSafe_countDown (holdsSafe_countDown holds .a) .b
  case written n readBack hwrite =>
    refine holdsSafe_of_noVisit holds records (recordCount_of_noVisit (noVisit_of_writeInFlight store hwrite).1) ?_ ?_ ?_ ?_
    all_goals unfold State.completeWrite
    · split <;> exact id
    · split <;> rfl
    · intro st
      split <;> cases st <;> rfl
    · split <;> rfl
  case arrival l f _ => exact holdsSafe_dispose holds l f _
  case discard l _ => exact holdsSafe_discardMalformed holds l
  case sending l =>
    refine holdsSafe_setLink holds l _ fun h => ?_
    rw [startTransmission_eq]
    exact h
  case sent l =>
    refine holdsSafe_setLink holds l _ fun h => ?_
    unfold LinkContext.endTransmission
    split <;> exact h
  case host i r u _ heffect =>
    have hflags : (State.flagStarts s u).HoldsSafe := holdsSafe_flagStarts (holdsSafe_host safe heffect)
    exact hflags
  case request l k f r u htake heffect =>
    exact holdsSafe_setLink (holdsSafe_flagStarts (holdsSafe_request safe (nextRequest_some htake).1 heffect)) l _ id

end

end Sys2Proof.Machine

namespace Sys2Proof.Claims
open Sys2Proof.Machine

/-- Settles O54: a station and the record it holds are written together, and an evaluation reaches a held record only where no grant and no
pass stands on it, or where it leaves stage and passes as they are. -/
theorem stepKeepsHolds : Obligations.StepKeepsHolds :=
  fun _ _ safe h => step_keeps (fun _ _ => holdsSafe_move) safe h

end Sys2Proof.Claims
end

section
/-! PROOFS. While a visit is open no target is raised (R18). -/
namespace Sys2Proof.Machine

/-! ## No target higher -/

/-- A present target stays present and rises no higher. -/
def Record.NoHigher (r r' : Record) : Prop := ∀ old, r.target = some old → ∃ new, r'.target = some new ∧ new ≤ old

namespace Record.NoHigher

theorem of_target {r r' : Record} (h : r'.target = r.target) : r.NoHigher r' := fun old hold => ⟨old, h.trans hold, le_rfl⟩

theorem trans {r r' r'' : Record} (h : r.NoHigher r') (k : r'.NoHigher r'') : r.NoHigher r'' := fun old hold => by
  obtain ⟨new, hnew, hle⟩ := h old hold
  obtain ⟨newer, hnewer, hle'⟩ := k new hnew
  exact ⟨newer, hnewer, hle'.trans hle⟩

theorem of_vacant {r r' : Record} (h : r = Record.vacant) : r.NoHigher r' := fun old hold => by
  rw [h] at hold
  cases hold

end Record.NoHigher

section
variable {s t : State} {n : Nat}

/-- A lowering lowers (R59). -/
theorem lowering_below {d : Nat} {l : Lowering} (h : l ∈ s.lowerings n d) {old : Nat} (hold : (s.record l.ordinal).target = some old) :
    l.target < old := by
  unfold State.lowerings at h
  split at h
  · cases h
  · obtain ⟨m, -, hl⟩ := List.mem_filterMap.mp h
    rw [loweringOf_ordinal hl] at hold
    unfold State.loweringOf at hl
    split at hl
    · cases hl
    · rw [hold] at hl
      split at hl
      · rename_i old' bound hold' _
        obtain rfl := Option.some.inj hold'
        split at hl
        · rename_i hlt
          cases hl
          exact hlt
        · cases hl
      · cases hl
      · cases hl

theorem noHigher_condemn (n : Nat) (c : CondemnCause) (m : Nat) : (s.record m).NoHigher ((s.condemn n c).record m) := by
  refine .of_target ?_
  rw [record_condemn]
  split
  · rename_i h
    rw [h.1]
  · rfl

/-- The candidate is no higher than the subject's target, and every lowering lower than its member's (R57, R59, R63). -/
theorem noHigher_evaluate (groups : s.GroupsSafe) (h1 : 1 ≤ n) (h64 : n ≤ 64) (h : Handed) (m : Nat) :
    (s.record m).NoHigher ((s.evaluate n h).record m) := by
  rcases evaluate_cases s n h with ⟨-, he⟩ | ⟨-, he⟩ | ⟨o, -, -, he⟩ | ⟨-, -, he⟩ <;> rw [he]
  · exact .of_target rfl
  · exact noHigher_condemn n _ m
  · refine .of_target ?_
    rw [record_block]
    split
    · rename_i hm
      rw [hm.1]
    · rfl
  · rcases record_applyEvaluation_cases (t := s.candidate n h.ownNeed) h groups h1 h64 m with ⟨hmn, hm⟩ | ⟨-, hm⟩ | ⟨-, l, hl, hlm, hm⟩ <;>
      rw [hm]
    · intro old hold
      rw [hmn] at hold
      rw [Record.applied_eq]
      exact ⟨_, rfl, candidate_le_target hold⟩
    · exact .of_target rfl
    · intro old hold
      rw [← hlm] at hold
      exact ⟨_, Record.target_lowered _ _ _, (lowering_below hl hold).le⟩

theorem noHigher_evaluateMeasured (groups : s.GroupsSafe) (h1 : 1 ≤ n) (h64 : n ≤ 64) (m : Nat) :
    (s.record m).NoHigher ((s.evaluateMeasured n).record m) := by
  unfold State.evaluateMeasured
  split
  · exact .of_target rfl
  · exact .trans (.of_target (Record.CourseKept.writeAssessment s n m _).target)
      (noHigher_evaluate (groupsSafe_writeAssessment s n _ groups) h1 h64 _ m)

theorem noHigher_verifyRecord (groups : s.GroupsSafe) (h1 : 1 ≤ n) (h64 : n ≤ 64) (b : Measurement) (m : Nat) :
    (s.record m).NoHigher ((s.verifyRecord n b).record m) := by
  have hdecided : ∀ (u : State) (v : Verdict), (u.record m).NoHigher ((u.decideVerified n v b).record m) := fun u v => by
    refine .of_target ?_
    unfold State.decideVerified
    rw [State.record_modRecord]
    split
    · rename_i h
      rw [h.1]
    · rfl
  unfold State.verifyRecord
  split
  · exact hdecided s _
  · exact .trans (.of_target (Record.CourseKept.writeAssessment s n m _).target)
      (.trans (noHigher_evaluate (groupsSafe_writeAssessment s n _ groups) h1 h64 _ m) (hdecided _ _))

theorem noHigher_diameterTests (groups : s.GroupsSafe) (h1 : 1 ≤ n) (h64 : n ≤ 64) (d m : Nat) :
    (s.record m).NoHigher ((s.diameterTests n d).record m) := by
  unfold State.diameterTests
  simp only
  split_ifs
  · exact noHigher_condemn n _ m
  · have hneed := Record.CourseKept.modRecord (s.flag .overcut) n m (f := fun r => { r with ownNeed := some d })
      fun _ => ⟨rfl, rfl, rfl, rfl, rfl, rfl, rfl, rfl, rfl, rfl, rfl, id⟩
    have hgroups := groupsSafe_modRecord (s.flag .overcut) n (fun r => { r with ownNeed := some d }) (fun _ => rfl) (fun _ => rfl)
      (fun _ => rfl) (groupsSafe_of_frame (.flag s .overcut) groups)
    exact .trans (.of_target hneed.target) (noHigher_evaluate hgroups h1 h64 _ m)
  · exact .of_target rfl

/-- An accepted deviation puts the held-back target in place, which is no higher (R11, R75). -/
theorem noHigher_acceptDeviation (records : s.RecordsSafe) (h1 : 1 ≤ n) (h64 : n ≤ 64) (hblocked : (s.record n).stage = .blocked) (m : Nat) :
    (s.record m).NoHigher ((s.acceptDeviation n).record m) := by
  rw [record_acceptDeviation]
  split
  · rename_i h
    rw [h.1]
    have hready := ready_of_rulable records h1 h64 (by rw [hblocked]; rfl)
    obtain ⟨b, hb⟩ := Option.isSome_iff_exists.mp (hready.blocked.mpr hblocked)
    intro old hold
    exact ⟨b.heldBack, by simp [Record.deviated, Record.deviationTarget, hb], (hready.block b hb).2.2.2 old hold⟩
  · exact .of_target rfl

/-- A move of the table that does not close the visit raises no target. -/
theorem noHigher_move (safe : s.Safe) (h : TableMove s t) (hvisit : t.visit ≠ .noVisit) (m : Nat) : (s.record m).NoHigher (t.record m) := by
  obtain ⟨-, -, holds, -, records, groups, -⟩ := safe
  cases h
  case same h => exact .of_target (by rw [h.record])
  case limits hno h => exact absurd (h.visit.trans hno) hvisit
  case cleared _ _ _ _ _ hno => exact absurd hno hvisit
  case opened id hno _ _ _ => exact .of_vacant (record_of_not_loaded records (recordCount_of_noVisit hno) m)
  case load id cars hopen _ _ _ =>
    exact .of_vacant (record_of_not_loaded records (recordCount_of_not_loaded (by simp only [State.isLoaded, hopen])) m)
  case report n b serial h1 hn _ _ _ _ _ h =>
    rw [h.record]
    exact .trans (.of_target (Record.CourseKept.storeReport s n m b serial).target)
      (noHigher_evaluateMeasured (groupsSafe_storeReport s n b serial groups) h1 (hn.trans (recordCount_le records)) m)
  case replan n h1 h64 _ _ h =>
    rw [h.record]
    exact noHigher_evaluateMeasured groups h1 h64 m
  case accept n h1 h64 hblocked _ h =>
    rw [h.record]
    exact noHigher_acceptDeviation records h1 h64 hblocked m
  case condemn n _ _ _ _ h =>
    rw [h.record]
    exact noHigher_condemn n _ m
  case holds hrecords h =>
    refine .of_target ?_
    rcases hrecords m with hm | hm
    · rw [hm]
    · rw [hm.written]
  case claim st n _ _ _ _ h =>
    refine .of_target ?_
    rw [h.record]
    simp only [State.claim, State.record_unlist, State.record_modRecord, State.modStation_eq, State.record_setStation]
    split
    · rename_i hm
      rw [hm.1]
    · rfl
  case passDone st n left right hheld _ _ _ h =>
    obtain ⟨h1, h64⟩ := range_of_held holds hheld
    rw [h.record]
    refine .trans (.of_target ?_) (noHigher_diameterTests (groupsSafe_endPass groups st n left right) h1 h64 _ m)
    rw [record_endPass]
    split
    · rename_i hm
      rw [hm.1]
    · rfl
  case verify st n b hheld _ _ h =>
    obtain ⟨h1, h64⟩ := range_of_held holds hheld
    rw [h.record]
    exact .trans (.of_target (Record.CourseKept.storeVerify s st n m b).target)
      (noHigher_verifyRecord (groupsSafe_storeVerify groups st n b) h1 h64 b m)
  case release st n _ h =>
    refine .of_target ?_
    rw [h.record, record_releaseRecord]
    split
    · rename_i hm
      rw [hm.1]
      rfl
    · rfl

end

end Sys2Proof.Machine

namespace Sys2Proof.Claims
open Sys2Proof.Machine

/-- Settles O20: every write of a target is by the planner, which takes the smallest of what bounds it, or puts in place one that was held
back. -/
theorem targetIsNeverRaised : Obligations.TargetIsNeverRaised := by
  intro s t n old safe hstep hvisit hold
  obtain ⟨u, hsafe, hrecords, hmove⟩ := step_cases safe hstep
  exact noHigher_move hsafe (tableMove_of_move hsafe hmove) hvisit n old (by rw [record_congr hrecords]; exact hold)

end Sys2Proof.Claims
end

section
/-! PROOFS. Every command ends in a next state and leaves the queue as it is (O1, O2). -/
namespace Sys2Proof.Machine

/-! ## Every command ends in a next state -/

theorem exists_portCommand (i : Instr) (owner : State → Taken) (s : State) : ∃ t, portCommand i owner s = .next t := by
  unfold portCommand
  split <;> exact ⟨_, rfl⟩

theorem exists_serve (l : LinkId) (k : RequestKind) (owner : List Byte → State → Taken) (s : State) :
    ∃ t, serve l k owner s = .next t := by
  unfold serve
  split <;> exact ⟨_, rfl⟩

theorem exists_serveStation (st : StationId) (k : RequestKind) (owner : StationId → List Byte → State → Taken) (s : State) :
    ∃ t, serveStation st k owner s = .next t := exists_serve (stationLink st) k _ s

theorem exists_execStatus (s : State) : ∃ t, execStatus s = .next t := by
  unfold execStatus
  split <;> exact ⟨_, rfl⟩

theorem exists_execReadWindow (k : Nat) (s : State) : ∃ t, execReadWindow k s = .next t := by
  unfold execReadWindow
  split <;> exact ⟨_, rfl⟩

theorem exists_takeHostCommand (i : Instr) (s : State) : ∃ t, takeHostCommand i s = .next t := by
  cases i
  case status => exact exists_execStatus s
  case reset | resetEnd | startUpCheckEnd | moveRequestRise | moveRequestFall | revPulse | timebaseTick | passWatchExpiry
    | storeCompletion | cellFrameArrival | transmissionStart | transmissionEnd | hello | gaugeReport | aligned | claim | grantPass
    | startPass | passDone | verify | release | readContour | contourNext | emptyWindow | readWindow | malformedCommandWindow
    | malformedFrameDiscarded => exact ⟨s, rfl⟩
  all_goals exact exists_portCommand _ _ s

theorem exists_commandWindow (s : State) (bytes : List Byte) : ∃ t, s.commandWindow bytes = .next t := by
  unfold State.commandWindow
  split
  · exact ⟨_, rfl⟩
  · exact exists_takeHostCommand _ s

theorem exists_execMalformedCommandWindow (bytes : List Byte) (s : State) : ∃ t, execMalformedCommandWindow bytes s = .next t := by
  have marked (b : Byte) (rest : List Byte) :
      ∃ t, (if b == Config.readMarker then execReadWindow rest.length s else s.commandWindow (b :: rest)) = .next t := by
    split
    · exact exists_execReadWindow _ s
    · exact exists_commandWindow s _
  unfold execMalformedCommandWindow
  split
  · exact ⟨_, rfl⟩
  · exact ⟨_, rfl⟩
  · exact ⟨_, rfl⟩
  · exact marked _ _
  · exact marked _ _

/-- Every command ends in a next state: no meaning ends in a fault or a refusal (log 1). -/
theorem exists_exec (c : Instr) (s : State) : ∃ t, exec c s = .next t := by
  cases c
  case reset => exact ⟨_, rfl⟩
  case resetEnd strap =>
    change ∃ t, execResetEnd strap s = .next t
    unfold execResetEnd
    split <;> exact ⟨_, rfl⟩
  case startUpCheckEnd =>
    change ∃ t, execStartUpCheckEnd s = .next t
    unfold execStartUpCheckEnd
    split <;> exact ⟨_, rfl⟩
  case moveRequestRise =>
    change ∃ t, execMoveRequestRise s = .next t
    unfold execMoveRequestRise
    simp only
    split_ifs <;> exact ⟨_, rfl⟩
  case moveRequestFall =>
    change ∃ t, execMoveRequestFall s = .next t
    unfold execMoveRequestFall
    simp only
    split_ifs <;> exact ⟨_, rfl⟩
  case revPulse st =>
    change ∃ t, execRevPulse st s = .next t
    unfold execRevPulse
    split <;> exact ⟨_, rfl⟩
  case timebaseTick =>
    change ∃ t, execTimebaseTick s = .next t
    unfold execTimebaseTick
    split <;> exact ⟨_, rfl⟩
  case passWatchExpiry st =>
    change ∃ t, execPassWatchExpiry st s = .next t
    unfold execPassWatchExpiry
    split <;> exact ⟨_, rfl⟩
  case storeCompletion c =>
    change ∃ t, execStoreCompletion c s = .next t
    unfold execStoreCompletion
    split <;> exact ⟨_, rfl⟩
  case cellFrameArrival l f =>
    change ∃ t, execCellFrameArrival l f s = .next t
    unfold execCellFrameArrival
    split <;> exact ⟨_, rfl⟩
  case malformedFrameDiscarded l why =>
    change ∃ t, execMalformedFrameDiscarded l why s = .next t
    unfold execMalformedFrameDiscarded
    split <;> exact ⟨_, rfl⟩
  case transmissionStart l => exact ⟨_, rfl⟩
  case transmissionEnd l => exact ⟨_, rfl⟩
  case emptyWindow => exact ⟨_, rfl⟩
  case readWindow k => exact exists_execReadWindow k s
  case malformedCommandWindow bytes => exact exists_execMalformedCommandWindow bytes s
  case hello l => exact exists_serve l .hello (takeHello l) s
  case gaugeReport => exact exists_serve .gauge .gaugeReport takeGaugeReport s
  case aligned => exact exists_serve .mover .aligned takeAligned s
  case claim st => exact exists_serveStation st .claim takeClaim s
  case grantPass st => exact exists_serveStation st .grantPass takeGrantPass s
  case startPass st => exact exists_serveStation st .startPass takeStartPass s
  case passDone st => exact exists_serveStation st .passDone takePassDone s
  case verify st => exact exists_serveStation st .verify takeVerify s
  case release st => exact exists_serveStation st .release takeRelease s
  case readContour st => exact exists_serveStation st .readContour takeReadContour s
  case contourNext st => exact exists_serve (stationLink st) .contourNext (takeContourNext st) s
  all_goals
    rw [exec_eq_takeHostCommand rfl]
    exact exists_takeHostCommand _ s

/-! ## Every command leaves the queue as it is -/

theorem PlanFrame.pending {s t : State} (h : PlanFrame s t) : t.pending = s.pending := by rw [h]

section
variable (s : State)

@[simp] theorem State.pending_modRecord (n : Nat) (f : Record → Record) : (s.modRecord n f).pending = s.pending := by
  simp [State.modRecord]

@[simp] theorem State.pending_modStation (st : StationId) (f : StationContext → StationContext) :
    (s.modStation st f).pending = s.pending := by
  simp [State.modStation]

@[simp] theorem State.pending_modLink (l : LinkId) (f : LinkContext → LinkContext) : (s.modLink l f).pending = s.pending := by
  simp [State.modLink]

@[simp] theorem State.pending_flagStarts (b : State) : (State.flagStarts b s).pending = s.pending := by
  rw [State.flagStarts_attention]

@[simp] theorem State.pending_holdFreed : s.holdFreed.pending = s.pending := by
  rcases s.holdFreed_cases with ⟨-, -, -, h⟩ | ⟨-, h⟩ <;> rw [h]
  rfl

@[simp] theorem State.pending_setHold (st : StationId) (h : Hold) : (s.setHold st h).pending = s.pending := by
  unfold State.setHold
  split <;> simp

@[simp] theorem State.pending_haltPass (st : StationId) : (s.haltPass st).pending = s.pending := by
  simp [State.haltPass, State.sendOrder]

@[simp] theorem State.pending_resumePass (st : StationId) : (s.resumePass st).pending = s.pending := by
  simp [State.resumePass, State.sendOrder]

@[simp] theorem State.pending_resetStation (st : StationId) : (s.resetStation st).pending = s.pending := by
  unfold State.resetStation
  split <;> simp

@[simp] theorem State.pending_resetOwner (l : LinkId) : (s.resetOwner l).pending = s.pending := by
  cases l
  case gauge => rfl
  case stationA => exact s.pending_resetStation .a
  case stationB => exact s.pending_resetStation .b
  case mover => rfl

@[simp] theorem State.pending_acknowledgeMask (mask : Nat) : (s.acknowledgeMask mask).pending = s.pending := by
  unfold State.acknowledgeMask
  generalize allSources = ks
  induction ks generalizing s with
  | nil => rfl
  | cons k rest ih =>
    rw [List.foldl_cons, ih]
    split <;> rfl

@[simp] theorem State.pending_storeReport (n : Nat) (m : Measurement) (serial : Option Nat) :
    (s.storeReport n m serial).pending = s.pending := by
  have hserial : (s.storeSerial n serial).pending = s.pending := by
    unfold State.storeSerial
    split <;> rfl
  exact hserial

@[simp] theorem State.pending_releaseRecord (st : StationId) (n : Nat) : (s.releaseRecord st n).pending = s.pending := by
  unfold State.releaseRecord
  simp only
  split <;> simp

@[simp] theorem State.pending_expire (st : StationId) : (s.expire st).pending = s.pending := by
  have hrecord : (s.abandonRecord st).pending = s.pending := by
    unfold State.abandonRecord
    split <;> simp
  simp [State.expire, State.sendOrder, hrecord]

@[simp] theorem State.pending_countDown (st : StationId) : (s.countDown st).pending = s.pending := by
  rcases s.countDown_cases st with ⟨-, h⟩ | ⟨-, -, h⟩ | ⟨-, -, h⟩ <;> rw [h] <;> simp

@[simp] theorem State.pending_discardMalformed (l : LinkId) : (s.discardMalformed l).pending = s.pending := by
  unfold State.discardMalformed
  split
  · rfl
  · simp [State.recordFault]

@[simp] theorem State.pending_dispose (l : LinkId) (f : CellFrame) (d : Disposition) : (s.dispose l f d).pending = s.pending := by
  cases d
  case malformed => exact s.pending_discardMalformed l
  case helloTaken =>
    simp only [State.dispose, State.helloAtArrival]
    split <;> simp [State.interfaceAnswer]
  all_goals simp [State.dispose, State.interfaceAnswer, State.recordFault]

theorem pending_completeWrite (n : Nat) (c : PageContents) : (s.completeWrite n c).pending = s.pending := by
  unfold State.completeWrite
  split
  · cases s.staging <;> rfl
  · rfl

end

theorem pending_hostEffect {s u : State} (h : HostEffect s u) : u.pending = s.pending := by
  cases h
  case unchanged => rfl
  case acknowledge mask => exact s.pending_acknowledgeMask mask
  case replan n _ _ _ _ => exact (planFrame_evaluateMeasured s n).pending
  case accept n _ _ _ _ => exact (planFrame_acceptDeviation s n).pending
  case condemn n _ _ _ _ => exact (planFrame_condemn s n _).pending
  case halt st _ _ => exact s.pending_haltPass st
  case resume st _ _ => exact s.pending_resumePass st
  case resetLink l _ => simp
  case program | openVisit | load | window | close | openCatalogue | closeCatalogue | stage | commit | abort => rfl

theorem pending_requestEffect {s u : State} {l : LinkId} (h : RequestEffect s l u) : u.pending = s.pending := by
  cases h
  case unchanged | reportRefused | reportConflict | aligned => rfl
  case report n m serial _ _ _ _ _ _ => exact (planFrame_evaluateMeasured _ n).pending.trans (s.pending_storeReport n m serial)
  case claim st n _ _ _ _ => simp [State.claim]
  case grant => exact s.pending_modStation _ _
  case startPass => simp [State.startPass]
  case passDone st n left right _ _ _ _ => exact (planFrame_diameterTests _ n _).pending.trans (by simp [State.endPass])
  case verify st n m _ _ _ => exact (planFrame_verifyRecord _ n m).pending.trans (by simp [State.storeVerify])
  case release => simp
  case cursor => exact s.pending_modStation _ _

/-- No move of the part touches the queue (log 1). -/
theorem pending_move {s t : State} (h : Move s t) : t.pending = s.pending := by
  cases h
  case idle | window | reset | resetEnd | level | fall => rfl
  case startUp =>
    rw [endStartUp_eq]
    change (if s.moveRequest = true then s.grantMove else { s with moveState := .still }).pending = s.pending
    split <;> rfl
  case rise =>
    rw [State.pending_flagStarts]
    unfold State.takeRise
    split <;> rfl
  case pulse st => exact s.pending_countDown st
  case tick => simp
  case written n readBack _ => exact pending_completeWrite s n readBack
  case arrival l f _ => exact s.pending_dispose l f _
  case discard l _ => exact s.pending_discardMalformed l
  case sending l => exact s.pending_modLink l _
  case sent l => exact s.pending_modLink l _
  case host i r u _ heffect =>
    rw [State.pending_answerCommand, State.pending_flagStarts, pending_hostEffect heffect]
  case request l k f r u _ heffect =>
    rw [State.answerInbox, State.pending_modLink, State.pending_flagStarts, pending_requestEffect heffect]

end Sys2Proof.Machine
namespace Sys2Proof.Claims
open Sys2Proof.Machine

/-- Settles O1: `step` by the front of its queue. -/
theorem stepTakesTheFrontCommand : Obligations.StepTakesTheFrontCommand := by
  unfold Obligations.StepTakesTheFrontCommand
  exact ⟨fun c s => step_cons rfl, fun s h => by simp only [step, h]⟩

/-- Settles O2: each meaning ends in a next state, and each move of the part leaves the queue. -/
theorem everyCommandCompletes : Obligations.EveryCommandCompletes := by
  unfold Obligations.EveryCommandCompletes
  intro c s
  obtain ⟨t, h⟩ := exists_exec c s
  refine ⟨t, h, ?_⟩
  rcases move_exec h with hmove | ⟨st, -, hmove⟩
  · exact pending_move hmove
  · rw [pending_move hmove, State.closeCursor, State.pending_modStation]

end Sys2Proof.Claims
end

section
/-! PROOFS. RESET, its end, and the end of the start-up check (O3, O4, O5). -/
namespace Sys2Proof.Machine

/-! ## The state after reset -/

theorem record_reset (n : Nat) : State.reset.record n = Record.vacant := tableGet_replicate n

theorem quietSafe_reset : State.reset.QuietSafe := ⟨fun _ => rfl, nofun⟩

theorem linksSafe_reset : State.reset.LinksSafe := by
  refine ⟨fun q _ => ?_, fun q _ _ => ?_, nofun⟩
  · cases q <;> exact linkSafe_afterReset _
  · cases q <;> exact nofun

theorem holdsSafe_reset : State.reset.HoldsSafe := by
  refine holdsSafe_of_free (fun st => ?_) (fun m => ?_) nofun
  · cases st <;> exact ⟨rfl, rfl, rfl, rfl, rfl⟩
  · rw [record_reset]
    exact ⟨rfl, rfl, rfl⟩

theorem serialsSafe_reset : State.reset.SerialsSafe := serialsSafe_of_empty (fun m => by rw [record_reset]; rfl) rfl

theorem storeSafe_reset : State.reset.StoreSafe :=
  ⟨fun _ => rfl, nofun, rfl, fun h => absurd rfl h, nofun, limitsFault_shipped, nofun, nofun⟩

theorem attentionSafe_reset : State.reset.AttentionSafe := by
  intro k _
  rw [source_reset, condition_reset]
  exact ⟨by decide, nofun⟩

theorem safe_reset : State.reset.Safe :=
  ⟨quietSafe_reset, linksSafe_reset, holdsSafe_reset, motionSafe_of_empty nofun nofun nofun rfl rfl,
    recordsSafe_of_not_loaded rfl rfl record_reset nofun, groupsSafe_of_none rfl rfl rfl, ⟨List.nodup_nil, nofun⟩, serialsSafe_reset,
    storeSafe_reset, attentionSafe_reset⟩

/-! ## RESET and its end -/

theorem execResetEnd_of_reset {s : State} (h : s.phase = .resetAsserted) (m : StationMode) : execResetEnd m s = .next
    { s with phase := .starting, stationMode := m, stationA := { s.stationA with enabled := true },
             stationB := { s.stationB with enabled := stationBEnabled m }, linkB := { s.linkB with state := linkBState m } } := by
  simp only [execResetEnd, h]

theorem execResetEnd_of_not_reset {s : State} (h : s.phase ≠ .resetAsserted) (m : StationMode) : execResetEnd m s = .next s := by
  unfold execResetEnd
  split
  · rename_i hreset; exact absurd hreset h
  · rfl
  · rfl

theorem stationBEnabled_eq (m : StationMode) : stationBEnabled m = (m == .tandem) := by cases m <;> rfl

theorem linkBState_eq (m : StationMode) : linkBState m = if m = .single then .disabled else .down := by cases m <;> rfl

/-! ## The end of the start-up check -/

theorem execStartUpCheckEnd_of_starting {s : State} (h : s.phase = .starting) : execStartUpCheckEnd s = .next s.endStartUp := by
  simp only [execStartUpCheckEnd, h]

theorem execStartUpCheckEnd_of_not_starting {s : State} (h : s.phase ≠ .starting) : execStartUpCheckEnd s = .next s := by
  unfold execStartUpCheckEnd
  split
  · rfl
  · rename_i hstarting; exact absurd hstarting h
  · rfl

theorem any_unusable_judgements (s : State) :
    (judgements s.pages).toList.any (· == .unusable) = true ↔ ∃ n ∈ pageNumbers, judge n (s.page n) = .unusable := by
  have hlist : (judgements s.pages).toList = pageNumbers.map (fun n => judge n (s.page n)) := rfl
  simp [hlist]

theorem pageStatus_decideMove (s : State) : s.decideMove.pageStatus = s.pageStatus := by
  unfold State.decideMove
  split <;> rfl

theorem attention_decideMove (s : State) : s.decideMove.attention = s.attention := by
  unfold State.decideMove
  split <;> rfl

theorem source_flag_congr {s u : State} {f : Source} (h : ∀ k, u.source k = s.source k) (k : Source) :
    (u.flag f).source k = (s.flag f).source k := by
  rw [State.source_flag, State.source_flag, h, h]

/-- The check's end flags STORE FAULT, or no source (R196). -/
theorem source_endStartUp_eq (s : State) (k : Source) : s.endStartUp.source k =
    (if (judgements s.pages).toList.any (· == .unusable) = true then s.flag .storeFault else s).source k := by
  have hsource : ∀ (u : State), u.attention = s.attention → ∀ j, u.decideMove.source j = s.source j := fun u h j => by
    simp only [State.source, attention_decideMove, h]
  unfold State.endStartUp
  simp only [pageStatus_decideMove]
  split_ifs
  · exact source_flag_congr (hsource _ (by rfl)) k
  · exact hsource _ (by rfl) k

/-- STORE FAULT is flagged where a page is judged UNUSABLE, and no other source is touched (R196). -/
theorem source_endStartUp (s : State) (k : Source) : s.endStartUp.source k =
    if k = .storeFault ∧ ∃ n ∈ pageNumbers, judge n (s.page n) = .unusable then { s.source k with flag := true } else s.source k := by
  rw [source_endStartUp_eq]
  by_cases hbad : ∃ n ∈ pageNumbers, judge n (s.page n) = .unusable
  · rw [if_pos ((any_unusable_judgements s).mpr hbad), State.source_flag]
    by_cases hk : k = .storeFault
    · rw [if_pos hk, if_pos ⟨hk, hbad⟩, hk]
    · rw [if_neg hk, if_neg fun h => hk h.1]
  · rw [if_neg fun h => hbad ((any_unusable_judgements s).mp h), if_neg fun h => hbad h.2]

end Sys2Proof.Machine
namespace Sys2Proof.Claims
open Sys2Proof.Machine

theorem grantMove_eq_granted (s : State) : s.grantMove = granted s := rfl

/-- Settles O3: law by law. -/
theorem resetStateIsSafe : Obligations.ResetStateIsSafe := safe_reset

/-- Settles O4: RESET field by field, and its end by the phase. -/
theorem resetAndItsEnd : Obligations.ResetAndItsEnd := by
  unfold Obligations.ResetAndItsEnd
  refine ⟨fun s => rfl, rfl, fun n hn => by interval_cases n <;> rfl, rfl, fun s m h => ?_, fun s m h => ?_⟩
  · rw [← stationBEnabled_eq, ← linkBState_eq]
    exact execResetEnd_of_reset h m
  · exact execResetEnd_of_not_reset h m

/-- Settles O5: the state that the check's end leaves, field by field. -/
theorem startUpCheckEndTakesThePartIntoWork : Obligations.StartUpCheckEndTakesThePartIntoWork := by
  unfold Obligations.StartUpCheckEndTakesThePartIntoWork
  refine ⟨fun s hstarting => ⟨s.endStartUp, execStartUpCheckEnd_of_starting hstarting, ?_, fun n hn => statusOf_endStartUp s hn,
    fun v c hpage hvalid => ?_, fun hbad => ?_, source_endStartUp s, fun hsafe => ?_⟩, fun s h => execStartUpCheckEnd_of_not_starting h⟩
  case refine_1 =>
    rw [endStartUp_eq]
    rfl
  case refine_2 =>
    obtain ⟨w, hw, -⟩ := limits_of_judge_valid hvalid
    have hv : w = v := by
      rw [hpage] at hw
      injection hw with hv
      exact hv.symm
    rw [limits_endStartUp, ← hv]
    exact (congrArg limitsAtStart hw).trans (limitsAtStart_of_valid (hw ▸ hvalid))
  case refine_3 => rw [limits_endStartUp]; exact limitsAtStart_of_not_valid hbad
  case refine_4 =>
    obtain ⟨hempty, -⟩ := motion_before_work hsafe.1 (by rw [hstarting]; decide)
    rw [endStartUp_eq]
    change (if s.moveRequest = true then s.grantMove else { s with moveState := .still }).alignment = .empty
    split
    · rfl
    · exact hempty

end Sys2Proof.Claims
end

section
/-! PROOFS. Fields of a payload and back, and the depot port's frames and commands on the wire (R214 to R218). -/
namespace Sys2Proof

/-! ## Fields -/

/-- A number sent in front of a payload reads back from it (R214). -/
@[simp] theorem field_be_append (k n : Nat) (rest : List Byte) : field (be k n ++ rest) 0 k = n % 256 ^ k := by
  rw [field, List.drop_zero, List.take_left' (length_be k n), fromBe_be]

@[simp] theorem field_be (k n : Nat) : field (be k n) 0 k = n % 256 ^ k := by
  simpa using field_be_append k n []

/-- A field behind a number in front of the payload stands that many bytes earlier in the rest. -/
theorem field_skip {j off : Nat} (h : j ≤ off) (n k : Nat) (rest : List Byte) :
    field (be j n ++ rest) off k = field rest (off - j) k := by
  have hdrop : (be j n ++ rest).drop off = rest.drop (off - j) := by
    rw [List.drop_append, List.drop_eq_nil_of_le (by rw [length_be]; exact h), length_be, List.nil_append]
  rw [field, hdrop, field]

theorem field_lt (p : List Byte) (off k : Nat) : field p off k < 256 ^ k :=
  (fromBe_lt _).trans_le (Nat.pow_le_pow_right (by decide) (List.length_take_le k _))

/-- A field sent again is the bytes it was read from (R214). -/
theorem take_append_be_field {p : List Byte} {off k : Nat} (h : off + k ≤ p.length) :
    p.take off ++ be k (field p off k) = p.take (off + k) := by
  have hlen : ((p.drop off).take k).length = k := by rw [List.length_take, List.length_drop]; omega
  have hbytes : be k (field p off k) = (p.drop off).take k := by
    have := be_fromBe ((p.drop off).take k)
    rwa [hlen] at this
  rw [hbytes, List.take_add]

theorem be_field_zero {p : List Byte} {k : Nat} (h : k ≤ p.length) : be k (field p 0 k) = p.take k := by
  simpa using take_append_be_field (p := p) (off := 0) (k := k) (by omega)

theorem be_one_toNat (b : Byte) : be 1 b.toNat = [b] := by simp [be]

/-! ## Window frames -/

theorem commandFrame_eq (code : Nat) (p : List Byte) : commandFrame code p =
    [213#8] ++ ([BitVec.ofNat 8 code, BitVec.ofNat 8 p.length] ++ p)
      ++ be 2 (crc ([BitVec.ofNat 8 code, BitVec.ofNat 8 p.length] ++ p)).toNat := rfl

/-- The bytes that form a complete frame with this code and payload (R201 row 1, R216). -/
theorem parseWindow_eq_some_iff (bytes p : List Byte) (code : Byte) : parseWindow bytes = some (code, p) ↔
    p.length ≤ 250 ∧ bytes =
      [213#8] ++ ([code, BitVec.ofNat 8 p.length] ++ p) ++ be 2 (crc ([code, BitVec.ofNat 8 p.length] ++ p)).toNat := by
  constructor
  · intro h
    unfold parseWindow at h
    split at h
    · rename_i marker code' length rest
      simp only at h
      split at h
      · rename_i hgood
        simp only [Bool.and_eq_true, beq_iff_eq, decide_eq_true_eq] at hgood
        obtain ⟨⟨⟨hmarker, hmax⟩, hlength⟩, hcheck⟩ := hgood
        cases h
        have hp : (rest.take length.toNat).length = length.toNat := by rw [List.length_take]; omega
        have hcode : BitVec.ofNat 8 (rest.take length.toNat).length = length := by rw [hp]; simp
        have htail : be 2 (fromBe (rest.drop length.toNat)) = rest.drop length.toNat := by
          have hlen : (rest.drop length.toNat).length = 2 := by rw [List.length_drop]; omega
          have := be_fromBe (rest.drop length.toNat)
          rwa [hlen] at this
        refine ⟨hp.trans_le hmax, ?_⟩
        rw [hcode]
        change _ = [213#8] ++ (code :: length :: rest.take length.toNat) ++ be 2 (crc (code :: length :: rest.take length.toNat)).toNat
        rw [← hcheck, htail, hmarker]
        simp [Config.depotStartMarker]
      · cases h
    · cases h
  · rintro ⟨hmax, rfl⟩
    have hlen : (BitVec.ofNat 8 p.length).toNat = p.length := by
      rw [BitVec.toNat_ofNat]
      exact Nat.mod_eq_of_lt (by omega)
    have hcheck : ∀ c : CheckCode, fromBe (be 2 c.toNat) = c.toNat := fun c => by
      rw [fromBe_be]
      exact Nat.mod_eq_of_lt c.isLt
    simp [parseWindow, hlen, Config.depotStartMarker, Config.depotPayloadMax, hmax, hcheck]

/-! ## Car entries and points -/

theorem carsOf_flatMap_carBytes (cars : List CarEntry) (h : cars.all CarEntry.wf = true) : carsOf (cars.flatMap carBytes) = cars := by
  induction cars with
  | nil => rfl
  | cons c rest ih =>
    simp only [List.all_cons, Bool.and_eq_true, CarEntry.wf, fits1, decide_eq_true_eq] at h
    obtain ⟨⟨⟨h1, h2⟩, h3⟩, hrest⟩ := h
    have hbytes : (c :: rest).flatMap carBytes =
        BitVec.ofNat 8 c.class1 :: BitVec.ofNat 8 c.class2 :: BitVec.ofNat 8 c.profile :: rest.flatMap carBytes := by
      simp [carBytes, be]
    rw [hbytes, carsOf, ih hrest]
    simp [Nat.mod_eq_of_lt h1, Nat.mod_eq_of_lt h2, Nat.mod_eq_of_lt h3]

theorem flatMap_carBytes_carsOf (k : Nat) (p : List Byte) (h : p.length = 3 * k) :
    (carsOf p).flatMap carBytes = p ∧ (carsOf p).length = k ∧ (carsOf p).all CarEntry.wf = true := by
  induction k generalizing p with
  | zero =>
    rw [List.length_eq_zero_iff.mp h]
    exact ⟨rfl, rfl, rfl⟩
  | succ k ih =>
    match p, h with
    | a :: b :: c :: rest, h =>
      obtain ⟨hbytes, hlength, hwf⟩ := ih rest (by simp only [List.length_cons] at h; omega)
      refine ⟨?_, by simp [carsOf, hlength], ?_⟩
      · simp only [carsOf, List.flatMap_cons, hbytes, carBytes, be_one_toNat]
        rfl
      · simp only [carsOf, List.all_cons, hwf, CarEntry.wf, fits1, Bool.and_true, Bool.and_eq_true, decide_eq_true_eq]
        exact ⟨⟨a.isLt, b.isLt⟩, c.isLt⟩

theorem pointsOf_flatMap_pointBytes (ps : List Point) (h : ps.all Point.wf = true) : pointsOf (ps.flatMap pointBytes) = ps := by
  induction ps with
  | nil => rfl
  | cons q rest ih =>
    simp only [List.all_cons, Bool.and_eq_true, Point.wf, fits2, decide_eq_true_eq] at h
    obtain ⟨⟨h1, h2⟩, hrest⟩ := h
    obtain ⟨a, b, hab⟩ := List.length_eq_two.mp (length_be 2 q.lateral)
    obtain ⟨c, d, hcd⟩ := List.length_eq_two.mp (length_be 2 q.radial)
    have hbytes : (q :: rest).flatMap pointBytes = a :: b :: c :: d :: rest.flatMap pointBytes := by
      simp [pointBytes, hab, hcd]
    rw [hbytes, pointsOf, ih hrest, ← hab, ← hcd, fromBe_be, fromBe_be,
      Nat.mod_eq_of_lt (show q.lateral < 256 ^ 2 by norm_num; exact h1), Nat.mod_eq_of_lt (show q.radial < 256 ^ 2 by norm_num; exact h2)]

theorem flatMap_pointBytes_pointsOf (k : Nat) (p : List Byte) (h : p.length = 4 * k) :
    (pointsOf p).flatMap pointBytes = p ∧ (pointsOf p).length = k ∧ (pointsOf p).all Point.wf = true := by
  induction k generalizing p with
  | zero =>
    rw [List.length_eq_zero_iff.mp h]
    exact ⟨rfl, rfl, rfl⟩
  | succ k ih =>
    match p, h with
    | a :: b :: c :: d :: rest, h =>
      obtain ⟨hbytes, hlength, hwf⟩ := ih rest (by simp only [List.length_cons] at h; omega)
      refine ⟨?_, by simp [pointsOf, hlength], ?_⟩
      · have hab : be 2 (fromBe [a, b]) = [a, b] := be_fromBe [a, b]
        have hcd : be 2 (fromBe [c, d]) = [c, d] := be_fromBe [c, d]
        simp only [pointsOf, List.flatMap_cons, hbytes, pointBytes, hab, hcd]
        rfl
      · simp only [pointsOf, List.all_cons, hwf, Point.wf, fits2, Bool.and_true, Bool.and_eq_true, decide_eq_true_eq]
        exact ⟨by simpa using fromBe_lt [a, b], by simpa using fromBe_lt [c, d]⟩

end Sys2Proof
end

section
/-! PROOFS. The encoder and the decoder of host commands undo each other (R201 row 3, R217, R218). -/
namespace Sys2Proof

/-! ## Headers and limits -/

theorem length_headerBytes (h : ProfileHeader) : (headerBytes h).length = 14 := by simp [headerBytes]

theorem length_limitsBytes (v : LimitValues) : (limitsBytes v).length = 29 := by simp [limitsBytes]

theorem headerOf_headerBytes (h : ProfileHeader) (hwf : h.wf = true) : headerOf (headerBytes h) = h := by
  simp only [ProfileHeader.wf, fits1, fits2, Bool.and_eq_true, decide_eq_true_eq] at hwf
  obtain ⟨⟨⟨⟨⟨⟨⟨⟨h1, h2⟩, h3⟩, h4⟩, h5⟩, h6⟩, h7⟩, h8⟩, h9⟩ := hwf
  simp [headerOf, headerBytes, field_skip, Nat.mod_eq_of_lt, *]

theorem limitsOf_limitsBytes (v : LimitValues) (hwf : v.wf = true) : limitsOf (limitsBytes v) = v := by
  simp only [LimitValues.wf, fits1, fits2, fits3, Bool.and_eq_true, decide_eq_true_eq] at hwf
  obtain ⟨⟨⟨⟨⟨⟨⟨⟨⟨⟨⟨⟨⟨⟨h1, h2⟩, h3⟩, h4⟩, h5⟩, h6⟩, h7⟩, h8⟩, h9⟩, h10⟩, h11⟩, h12⟩, h13⟩, h14⟩, h15⟩ := hwf
  simp [limitsOf, limitsBytes, field_skip, Nat.mod_eq_of_lt, *]

theorem headerBytes_headerOf (p : List Byte) (h : p.length = 14) : headerBytes (headerOf p) = p := by
  simp (disch := omega) only [headerOf, headerBytes, be_field_zero, take_append_be_field]
  exact List.take_of_length_le (by omega)

theorem limitsBytes_limitsOf (p : List Byte) (h : p.length = 29) : limitsBytes (limitsOf p) = p := by
  simp (disch := omega) only [limitsOf, limitsBytes, be_field_zero, take_append_be_field]
  exact List.take_of_length_le (by omega)

theorem fits1_field (p : List Byte) (off : Nat) : fits1 (field p off 1) = true := by
  simpa [fits1] using field_lt p off 1

theorem fits2_field (p : List Byte) (off : Nat) : fits2 (field p off 2) = true := by
  simpa [fits2] using field_lt p off 2

theorem fits3_field (p : List Byte) (off : Nat) : fits3 (field p off 3) = true := by
  simpa [fits3] using field_lt p off 3

theorem fits4_field (p : List Byte) (off : Nat) : fits4 (field p off 4) = true := by
  simpa [fits4] using field_lt p off 4

theorem wf_headerOf (p : List Byte) : (headerOf p).wf = true := by
  simp [headerOf, ProfileHeader.wf, fits1_field, fits2_field]

theorem wf_limitsOf (p : List Byte) : (limitsOf p).wf = true := by
  simp [limitsOf, LimitValues.wf, fits1_field, fits2_field, fits3_field]

/-! ## From a command to its payload and back -/

/-- A well formed host command is the one its code and payload carry (R217). -/
theorem decodeCommand_of_encode {i : Instr} {code : Nat} {p : List Byte} (hwf : i.wf = true) (h : encodeCommand i = some (code, p)) :
    decodeCommand code p = some i := by
  cases i
  all_goals
    cases h <;>
      simp only [Instr.wf, Bool.and_eq_true, fits1, fits2, fits4, decide_eq_true_eq, beq_iff_eq] at hwf
  case loadConsist cars =>
    obtain ⟨hlength, hcars⟩ := hwf
    have hcount : cars.length < 256 := by simp only [Config.depotPayloadMax] at hlength; omega
    have hbytes : (cars.flatMap carBytes).length = 3 * cars.length := by
      simp [carBytes, List.length_flatMap, Nat.mul_comm]
    simp [decodeCommand, hbytes, Nat.mod_eq_of_lt hcount, carsOf_flatMap_carBytes cars hcars]
  case writePoints start ps =>
    obtain ⟨⟨hstart, hlength⟩, hps⟩ := hwf
    have hcount : ps.length < 256 := by simp only [Config.depotPayloadMax] at hlength; omega
    have hdrop : (be 1 start ++ be 1 ps.length ++ ps.flatMap pointBytes).drop 2 = ps.flatMap pointBytes := List.drop_left' (by simp)
    have hfield : field (be 1 start ++ be 1 ps.length ++ ps.flatMap pointBytes) 1 1 = ps.length := by
      rw [List.append_assoc, field_skip (by omega), field_be_append]
      exact Nat.mod_eq_of_lt hcount
    have hfirst : field (be 1 start ++ be 1 ps.length ++ ps.flatMap pointBytes) 0 1 = start := by
      rw [List.append_assoc, field_be_append]
      exact Nat.mod_eq_of_lt hstart
    have hbytes : (be 1 start ++ be 1 ps.length ++ ps.flatMap pointBytes).length = 2 + 4 * ps.length := by
      rw [List.length_append, Machine.length_points, List.length_append, length_be, length_be]
    simp only [decodeCommand, hdrop, hfield, hfirst, hbytes, pointsOf_flatMap_pointBytes ps hps]
    simp
  case writeProfileHead head => simp [decodeCommand, headerOf_headerBytes head hwf, length_headerBytes]
  case writeLimits v => simp [decodeCommand, limitsOf_limitsBytes v hwf, length_limitsBytes]
  case openVisit number text =>
    obtain ⟨hnumber, htext⟩ := hwf
    simp [decodeCommand, htext, Nat.mod_eq_of_lt hnumber]
  all_goals simp [decodeCommand, field_skip, Nat.mod_eq_of_lt, hwf]

/-! ## From a payload to its command and back -/

/-- A payload of the length that its code asks for is the payload of the command it carries, whose operands fit their fields (R217). -/
theorem encode_of_decodeCommand {i : Instr} {code : Nat} {p : List Byte} (hp : p.length ≤ 250) (h : decodeCommand code p = some i) :
    i.wf = true ∧ encodeCommand i = some (code, p) := by
  unfold decodeCommand at h
  simp only at h
  split at h
  case h_32 => cases h
  all_goals
    simp only [Option.ite_none_right_eq_some, Option.some.injEq, beq_iff_eq, Bool.and_eq_true, bne_iff_ne, ge_iff_le,
      decide_eq_true_eq, List.length_eq_zero_iff] at h
    obtain ⟨hlength, rfl⟩ := h
  case h_15 =>
    have htail : (p.drop 2).length = 8 := by rw [List.length_drop]; omega
    simp [Instr.wf, encodeCommand, fits2_field, htail, be_field_zero (p := p) (k := 2) (by omega)]
  case h_16 =>
    obtain ⟨hne, hcount⟩ := hlength
    obtain ⟨hbytes, hcars, hwf⟩ := flatMap_carBytes_carsOf (field p 0 1) (p.drop 1) (by rw [List.length_drop]; omega)
    refine ⟨?_, ?_⟩
    · simp only [Instr.wf, hwf, hcars, Config.depotPayloadMax, Bool.and_true, decide_eq_true_eq]
      omega
    · simp only [encodeCommand, hbytes, hcars, be_field_zero (p := p) (k := 1) (by omega), List.take_append_drop]
  case h_24 =>
    obtain ⟨hmin, hcount⟩ := hlength
    obtain ⟨hbytes, hpoints, hwf⟩ := flatMap_pointBytes_pointsOf (field p 1 1) (p.drop 2) (by rw [List.length_drop]; omega)
    refine ⟨?_, ?_⟩
    · simp only [Instr.wf, hwf, hpoints, fits1_field, Config.depotPayloadMax, Bool.and_true, Bool.true_and, decide_eq_true_eq]
      omega
    · simp only [encodeCommand, hbytes, hpoints, be_field_zero (p := p) (k := 1) (by omega),
        take_append_be_field (p := p) (off := 1) (k := 1) (by omega), List.take_append_drop]
  all_goals
    simp (disch := omega) [Instr.wf, encodeCommand, hlength, fits1_field, fits2_field, fits4_field, be_field_zero, take_append_be_field,
      wf_headerOf, wf_limitsOf, headerBytes_headerOf, limitsBytes_limitsOf, List.take_of_length_le]

end Sys2Proof
end

section
/-! PROOFS. The depot port: which windows are answered by the port and which pass to the owning block (O7 to O11). -/
namespace Sys2Proof.Machine

/-! ## Host commands by the phase -/

/-- While RESET is asserted no host command is taken (R200). -/
theorem takeHostCommand_of_reset {s : State} (i : Instr) (h : s.phase = .resetAsserted) : takeHostCommand i s = .next s := by
  cases i
  case status => simp only [takeHostCommand, execStatus, h]
  case reset | resetEnd | startUpCheckEnd | moveRequestRise | moveRequestFall | revPulse | timebaseTick | passWatchExpiry
    | storeCompletion | cellFrameArrival | transmissionStart | transmissionEnd | hello | gaugeReport | aligned | claim | grantPass
    | startPass | passDone | verify | release | readContour | contourNext | emptyWindow | readWindow | malformedCommandWindow
    | malformedFrameDiscarded => rfl
  all_goals exact portCommand_reset h

/-- While the part is STARTING every host command but STATUS is answered STARTING (R201 row 4). -/
theorem takeHostCommand_of_starting {s : State} {i : Instr} (hcode : (encodeCommand i).isSome = true) (hi : i ≠ .status)
    (h : s.phase = .starting) : takeHostCommand i s = .next (s.answerCommand i { reason := .starting, body := [] }) := by
  cases i
  case status => exact absurd rfl hi
  case reset | resetEnd | startUpCheckEnd | moveRequestRise | moveRequestFall | revPulse | timebaseTick | passWatchExpiry
    | storeCompletion | cellFrameArrival | transmissionStart | transmissionEnd | hello | gaugeReport | aligned | claim | grantPass
    | startPass | passDone | verify | release | readContour | contourNext | emptyWindow | readWindow | malformedCommandWindow
    | malformedFrameDiscarded => cases hcode
  all_goals exact portCommand_starting h

/-- A host command's answer echoes its code, and its window had five bytes beside the payload (R200, R202, R216). -/
theorem answerCommand_of_encode {i : Instr} {code : Nat} {p : List Byte} (h : encodeCommand i = some (code, p)) (s : State) (r : Reply) :
    s.answerCommand i r = s.putAnswer (5 + p.length) (BitVec.ofNat 8 code) r := by
  simp only [State.answerCommand, h, Option.getD_some]

/-! ## Codes and lengths -/

theorem code_of_encode {i : Instr} {code : Nat} {p : List Byte} (h : encodeCommand i = some (code, p)) : code ∈ commandCodes := by
  cases i
  all_goals cases h <;> decide

theorem lt_of_mem_commandCodes {code : Nat} (h : code ∈ commandCodes) : code < 256 := by
  have hall : ∀ c ∈ commandCodes, c < 256 := by decide
  exact hall code h

theorem length_of_encode {i : Instr} {code : Nat} {p : List Byte} (hwf : i.wf = true) (h : encodeCommand i = some (code, p)) :
    p.length ≤ 250 := by
  cases i
  case loadConsist cars =>
    cases h
    simp only [Instr.wf, Config.depotPayloadMax, Bool.and_eq_true, decide_eq_true_eq] at hwf
    have hcars : (cars.flatMap carBytes).length = 3 * cars.length := by simp [carBytes, List.length_flatMap, Nat.mul_comm]
    rw [List.length_append, length_be, hcars]
    exact hwf.1
  case writePoints start ps =>
    cases h
    simp only [Instr.wf, Config.depotPayloadMax, Bool.and_eq_true, decide_eq_true_eq] at hwf
    rw [List.length_append, List.length_append, length_be, length_be, length_points]
    exact hwf.1.2
  case openVisit number text =>
    cases h
    simp only [Instr.wf, Bool.and_eq_true, beq_iff_eq] at hwf
    rw [List.length_append, length_be, hwf.2]
    decide
  case writeProfileHead head =>
    cases h
    rw [length_headerBytes]
    decide
  case writeLimits v =>
    cases h
    rw [length_limitsBytes]
    decide
  all_goals cases h <;> simp

/-! ## Windows -/

theorem execReadWindow_of_reset {s : State} (k : Nat) (h : s.phase = .resetAsserted) : execReadWindow k s = .next s := by
  simp only [execReadWindow, h]

theorem execReadWindow_of_not_reset {s : State} (k : Nat) (h : s.phase ≠ .resetAsserted) : execReadWindow k s = .next (s.readOut k) := by
  unfold execReadWindow
  split
  · rename_i hreset; exact absurd hreset h
  · rfl
  · rfl

/-- What a read window shifts out is the frame, then filler, cut to the window (R203). -/
theorem shiftedOut_eq (s : State) (k : Nat) :
    s.shiftedOut k = (s.readFrame ++ List.replicate (k - s.readFrame.length) 255#8).take k := by
  rw [List.take_append, List.take_of_length_le (l := List.replicate _ _) (by simp)]
  rfl

/-- A window that begins with no read marker is a command window (R200). -/
theorem execMalformedCommandWindow_of_not_reset {s : State} {b : Byte} {rest : List Byte} (h : s.phase ≠ .resetAsserted)
    (hb : b ≠ 214#8) : execMalformedCommandWindow (b :: rest) s = s.commandWindow (b :: rest) := by
  have hmarker : (b == Config.readMarker) = false := by simpa [Config.readMarker] using hb
  cases hp : s.phase with
  | resetAsserted => exact absurd hp h
  | starting => simp only [execMalformedCommandWindow, hp, hmarker]; rfl
  | running => simp only [execMalformedCommandWindow, hp, hmarker]; rfl

theorem execMalformedCommandWindow_of_reset {s : State} (bytes : List Byte) (h : s.phase = .resetAsserted) :
    execMalformedCommandWindow bytes s = .next s := by
  simp only [execMalformedCommandWindow, h]

/-- Row 1 of R201. -/
theorem commandWindow_of_no_frame {s : State} {bytes : List Byte} (h : parseWindow bytes = none) :
    s.commandWindow bytes = .next (s.putAnswer bytes.length 0#8 { reason := .malformed, body := [] }) := by
  simp only [State.commandWindow, judgeWindow, h, Reply.bare]

section
variable {s : State} {bytes p : List Byte} {code : Byte} (hframe : parseWindow bytes = some (code, p))
include hframe

/-- Row 2 of R201. -/
theorem commandWindow_of_unknown (h : code.toNat ∉ commandCodes) :
    s.commandWindow bytes = .next (s.putAnswer bytes.length code { reason := .unknown, body := [] }) := by
  simp [State.commandWindow, judgeWindow, hframe, Reply.bare, h]

/-- Row 3 of R201. -/
theorem commandWindow_of_no_command (hcode : code.toNat ∈ commandCodes) (h : decodeCommand code.toNat p = none) :
    s.commandWindow bytes = .next (s.putAnswer bytes.length code { reason := .malformed, body := [] }) := by
  simp [State.commandWindow, judgeWindow, hframe, Reply.bare, hcode, h]

/-- Row 4 of R201. -/
theorem commandWindow_of_starting {i : Instr} (hcode : code.toNat ∈ commandCodes) (hi : decodeCommand code.toNat p = some i)
    (h : s.phase = .starting ∧ i ≠ .status) :
    s.commandWindow bytes = .next (s.putAnswer bytes.length code { reason := .starting, body := [] }) := by
  simp [State.commandWindow, judgeWindow, hframe, Reply.bare, hcode, hi, h]

/-- Row 5 of R201: the window is the command that its frame carries. -/
theorem commandWindow_of_passed {i : Instr} (hcode : code.toNat ∈ commandCodes) (hi : decodeCommand code.toNat p = some i)
    (h : ¬ (s.phase = .starting ∧ i ≠ .status)) : s.commandWindow bytes = exec i s := by
  obtain ⟨hmax, -⟩ := (parseWindow_eq_some_iff bytes p code).mp hframe
  obtain ⟨-, hencode⟩ := encode_of_decodeCommand hmax hi
  have hpassed : judgeWindow s.phase bytes = .passed i := by
    simpa [judgeWindow, hframe, hcode, hi] using h
  rw [exec_eq_takeHostCommand (by rw [hencode]; rfl)]
  simp only [State.commandWindow, hpassed]

end

end Sys2Proof.Machine
namespace Sys2Proof.Claims
open Sys2Proof.Machine

/-- Settles O7: by the phase, through the command's owner. -/
theorem portAnswersCommands : Obligations.PortAnswersCommands := by
  unfold Obligations.PortAnswersCommands
  intro s i code p h
  have hsome : (encodeCommand i).isSome = true := by rw [h]; rfl
  rw [exec_eq_takeHostCommand hsome]
  exact ⟨fun r => answerCommand_of_encode h s r, fun hp hi => takeHostCommand_of_starting hsome hi hp,
    fun hp => takeHostCommand_of_reset i hp⟩

/-- Settles O8: by the phase, and the layout of an answer. -/
theorem emptyAndReadWindows : Obligations.EmptyAndReadWindows := by
  unfold Obligations.EmptyAndReadWindows
  refine ⟨fun s => rfl, fun s k h => ?_, fun s k h => execReadWindow_of_reset k h, fun a => ⟨rfl, ?_⟩⟩
  · refine (execReadWindow_of_not_reset k h).trans ?_
    unfold State.readOut
    rw [shiftedOut_eq]
    rfl
  · simp [DepotAnswer.bytes, crcBytes]
    omega

/-- Settles O9: row by row. -/
theorem commandWindowRows : Obligations.CommandWindowRows := by
  unfold Obligations.CommandWindowRows
  refine ⟨fun s b rest hp hb => ?_, parseWindow_eq_some_iff,
    fun code p i hmax => ⟨encode_of_decodeCommand hmax, fun h => decodeCommand_of_encode h.1 h.2⟩⟩
  refine (execMalformedCommandWindow_of_not_reset hp hb).trans ?_
  have hlen : (b :: rest).length = 1 + rest.length := by rw [List.length_cons, Nat.add_comm]
  split
  · rename_i hframe
    rw [commandWindow_of_no_frame hframe, hlen]
  · rename_i code p hframe
    split_ifs with hmem
    · split
      · rename_i hnone
        rw [commandWindow_of_no_command hframe hmem hnone, hlen]
      · rename_i i hi
        split_ifs with hstarting
        · rw [commandWindow_of_starting hframe hmem hi hstarting, hlen]
        · exact commandWindow_of_passed hframe hmem hi hstarting
    · rw [commandWindow_of_unknown hframe hmem, hlen]

/-- Settles O10: the two directions of the wire, and the window's disposition by the phase. -/
theorem commandFramesCarryTheirCommand : Obligations.CommandFramesCarryTheirCommand := by
  unfold Obligations.CommandFramesCarryTheirCommand
  intro i code p hwf h
  have hmem := code_of_encode h
  have hlt := lt_of_mem_commandCodes hmem
  have hmax := length_of_encode hwf h
  have hdecode := decodeCommand_of_encode hwf h
  have hframe : parseWindow (commandFrame code p) = some (BitVec.ofNat 8 code, p) :=
    (parseWindow_eq_some_iff _ _ _).mpr ⟨hmax, commandFrame_eq code p⟩
  have hcode : (BitVec.ofNat 8 code).toNat = code := by
    rw [BitVec.toNat_ofNat]
    exact Nat.mod_eq_of_lt hlt
  refine ⟨hlt, hmax, hmem, hdecode, hframe, fun s => ?_⟩
  have hsome : (encodeCommand i).isSome = true := by rw [h]; rfl
  change execMalformedCommandWindow (commandFrame code p) s = exec i s
  by_cases hp : s.phase = .resetAsserted
  · rw [execMalformedCommandWindow_of_reset _ hp, exec_eq_takeHostCommand hsome, takeHostCommand_of_reset i hp]
  · have hwindow : execMalformedCommandWindow (commandFrame code p) s = s.commandWindow (commandFrame code p) :=
      execMalformedCommandWindow_of_not_reset hp (by decide)
    rw [hwindow]
    by_cases hstarting : s.phase = .starting ∧ i ≠ .status
    · have hlen : (commandFrame code p).length = 5 + p.length := by
        simp [commandFrame, crcBytes]
        omega
      rw [commandWindow_of_starting hframe (hcode.symm ▸ hmem) (hcode.symm ▸ hdecode) hstarting, exec_eq_takeHostCommand hsome,
        takeHostCommand_of_starting hsome hstarting.2 hstarting.1, answerCommand_of_encode h, hlen]
    · exact commandWindow_of_passed hframe (hcode.symm ▸ hmem) (hcode.symm ▸ hdecode) hstarting

/-- Settles O11: item by item. -/
theorem statusAnswersTheStatusWord : Obligations.StatusAnswersTheStatusWord := by
  unfold Obligations.StatusAnswersTheStatusWord
  intro s hp
  have hword : s.statusWord = bit (s.phase == .starting) ++ be 1 s.catalogue.code ++ be 1 (visitCode s.visit) ++ be 1 s.moveState.code
        ++ bit s.attentionLine
        ++ be 1 s.linkGauge.state.code ++ be 1 s.linkA.state.code ++ be 1 s.linkB.state.code ++ be 1 s.linkMover.state.code
        ++ be 1 s.linkGauge.fault.code ++ be 1 s.linkA.fault.code ++ be 1 s.linkB.fault.code ++ be 1 s.linkMover.fault.code := by
    simp [State.statusWord, flagByte_eq_bit, allLinks, State.link]
  have hbit : ∀ b, (bit b).length = 1 := fun b => by cases b <;> rfl
  refine ⟨?_, by rw [hword]; simp [hbit]⟩
  rw [← hword]
  change execStatus s = _
  unfold execStatus
  split
  · rename_i hreset; exact absurd hreset hp
  · rfl
  · rfl

end Sys2Proof.Claims
end

section
/-! PROOFS. When a page passes its tests (O6). -/
namespace Sys2Proof.Machine

theorem within_iff (low high n : Nat) : within low high n = true ↔ low ≤ n ∧ n ≤ high := by
  simp [within]

/-- The points pass exactly when each lies in range and their lateral positions rise, from the point before them on (R183, R191). -/
theorem pointItems_pass_iff (slot : Nat) (before : Option Point) (ps : List Point) :
    (∀ x ∈ pointItems slot before ps, x.2 = true) ↔
      (∀ p ∈ ps, p.lateral ≤ 15000 ∧ p.radial ≤ 6000) ∧ (before.toList ++ ps).Pairwise (fun p q => p.lateral < q.lateral) := by
  induction ps generalizing slot before with
  | nil => cases before <;> simp [pointItems]
  | cons p rest ih =>
    have hrest := ih (slot + 1) (some p)
    cases before with
    | none =>
      simp only [pointItems, List.forall_mem_cons, hrest, Option.toList_some, Option.toList_none, List.singleton_append, List.nil_append,
        Bool.and_true, Bool.and_eq_true, decide_eq_true_eq, and_assoc]
    | some q =>
      have hlater : q.lateral < p.lateral → (∀ r ∈ rest, p.lateral < r.lateral) → ∀ r ∈ rest, q.lateral < r.lateral :=
        fun h hall r hr => h.trans (hall r hr)
      simp only [pointItems, List.forall_mem_cons, hrest, Option.toList_some, List.singleton_append, List.pairwise_cons,
        Bool.and_eq_true, decide_eq_true_eq]
      constructor
      · rintro ⟨⟨hp, hq⟩, hall, hp', hpairs⟩
        exact ⟨⟨hp, hall⟩, ⟨hq, hlater hq hp'⟩, hp', hpairs⟩
      · rintro ⟨⟨hp, hall⟩, ⟨hq, -⟩, hp', hpairs⟩
        exact ⟨⟨hp, hq⟩, hall, hp', hpairs⟩

/-- A profile passes exactly when its header's items and its points do (R183, R191). -/
theorem profileFault_eq_none_iff (n : Nat) (i : ProfileImage) : profileFault n i = none ↔
    (∀ x ∈ headerItems n i.header, x.2 = true)
      ∧ (∀ p ∈ imagePoints i, p.lateral ≤ 15000 ∧ p.radial ≤ 6000)
      ∧ (imagePoints i).Pairwise (fun p q => p.lateral < q.lateral) := by
  have hpoints := pointItems_pass_iff 0 none (imagePoints i)
  rw [Option.toList_none, List.nil_append] at hpoints
  rw [← hpoints, ← firstFailing_none, ← firstFailing_none]
  unfold profileFault
  cases firstFailing (headerItems n i.header) <;> simp

theorem headerItems_pass_iff (n : Nat) (h : ProfileHeader) : (∀ x ∈ headerItems n h, x.2 = true) ↔
    (h.number = n ∧ h.number ≤ 15) ∧ (1 ≤ h.applicability ∧ h.applicability ≤ 3)
      ∧ (1500 ≤ h.nominalThickness ∧ h.nominalThickness ≤ 4000) ∧ (1500 ≤ h.acceptThickness ∧ h.acceptThickness ≤ 4000)
      ∧ (2000 ≤ h.nominalHeight ∧ h.nominalHeight ≤ 4000) ∧ (2000 ≤ h.maxHeight ∧ h.maxHeight ≤ 4000)
      ∧ (300 ≤ h.minSteepness ∧ h.minSteepness ≤ 1500) ∧ (4 ≤ h.restoreFactor ∧ h.restoreFactor ≤ 32)
      ∧ (8 ≤ h.pointCount ∧ h.pointCount ≤ 48) := by
  simp only [headerItems, List.forall_mem_cons, within_iff, Bool.and_eq_true, beq_iff_eq, decide_eq_true_eq, List.not_mem_nil,
    false_imp_iff, implies_true, and_true]

theorem limitsFault_eq_none_iff (v : LimitValues) : limitsFault v = none ↔
    (60000 ≤ v.condemnMotor ∧ v.condemnMotor ≤ 125000) ∧ (60000 ≤ v.condemnTrailer ∧ v.condemnTrailer ≤ 125000)
      ∧ v.bogieTolMotor ≤ 1000 ∧ v.bogieTolTrailer ≤ 1000 ∧ v.carTolMotor ≤ 2000 ∧ v.carTolTrailer ≤ 2000
      ∧ v.axleTol ≤ 500 ∧ v.finishTol ≤ 500 ∧ v.undercutTol ≤ 500 ∧ (1 ≤ v.maxPassDepth ∧ v.maxPassDepth ≤ 1000)
      ∧ (1 ≤ v.maxPasses ∧ v.maxPasses ≤ 8) ∧ v.reopenLimit ≤ 3 ∧ (1 ≤ v.cleanUp ∧ v.cleanUp ≤ 500) ∧ v.watchReload ≤ 65535
      ∧ (1 ≤ v.watchMode ∧ v.watchMode ≤ 2) := by
  rw [limitsFault, firstFailing_none]
  simp only [limitItems, List.forall_mem_cons, within_iff, Nat.zero_le, true_and, List.not_mem_nil, false_imp_iff, implies_true,
    and_true]

theorem judge_profile (n : Nat) (i : ProfileImage) (c : CheckCode) : judge n (.profile i c) =
    if c = pageCheckCode (profileBody i) ∧ n < 16 ∧ profileFault n i = none then .valid else .unusable := by
  simp [judge, pageCheckAgrees, Config.limitsPage, and_assoc]

theorem judge_limits (n : Nat) (v : LimitValues) (c : CheckCode) : judge n (.limits v c) =
    if c = pageCheckCode (limitsBody v) ∧ n = 16 ∧ limitsFault v = none then .valid else .unusable := by
  simp [judge, pageCheckAgrees, Config.limitsPage, and_assoc]

/-- What passes is VALID and what does not is UNUSABLE, once the judgement is known to be a test. -/
theorem valid_iff_and_unusable {x : PageStatus} {test passes : Prop} [Decidable test] (hx : x = if test then .valid else .unusable)
    (h : test ↔ passes) : (x = .valid ↔ passes) ∧ (¬ passes → x = .unusable) := by
  rw [hx, ← h]
  by_cases ht : test <;> simp [ht]

end Sys2Proof.Machine
namespace Sys2Proof.Claims
open Sys2Proof.Machine

/-- Settles O6: each judgement is a test, and the test is the list of its items. -/
theorem pageTestsDecideTheStatus : Obligations.PageTestsDecideTheStatus := by
  unfold Obligations.PageTestsDecideTheStatus
  refine ⟨fun n i c => valid_iff_and_unusable (judge_profile n i c) ?_, fun n v c => valid_iff_and_unusable (judge_limits n v c) ?_,
    fun n => ⟨rfl, rfl⟩, fun n i h => judge_committed_profile h, fun v h => ?_⟩
  · rw [profileFault_eq_none_iff, headerItems_pass_iff]
    constructor
    · rintro ⟨hc, hn, ⟨⟨hnumber, -⟩, ⟨h1, h2⟩, ⟨h3, h4⟩, ⟨h5, h6⟩, ⟨h7, h8⟩, ⟨h9, h10⟩, ⟨h11, h12⟩, ⟨h13, h14⟩, h15, h16⟩, hrange, hrise⟩
      exact ⟨hc, by omega, hnumber, h1, h2, h3, h4, h5, h6, h7, h8, h9, h10, h11, h12, h13, h14, h15, h16, hrange, hrise⟩
    · rintro ⟨hc, hn, hnumber, h1, h2, h3, h4, h5, h6, h7, h8, h9, h10, h11, h12, h13, h14, h15, h16, hrange, hrise⟩
      exact ⟨hc, by omega, ⟨⟨hnumber, by omega⟩, ⟨h1, h2⟩, ⟨h3, h4⟩, ⟨h5, h6⟩, ⟨h7, h8⟩, ⟨h9, h10⟩, ⟨h11, h12⟩, ⟨h13, h14⟩, h15, h16⟩,
        hrange, hrise⟩
  · rw [limitsFault_eq_none_iff]
    refine and_congr_right fun _ => and_congr_right fun _ => ?_
    omega
  · rw [judge_writtenLimits, if_pos ⟨rfl, h⟩]

end Sys2Proof.Claims
end

section
/-! PROOFS. The ATTENTION line, the selected source, and ACK EVENTS (O49, O51). -/
namespace Sys2Proof.Machine

/-! ## The selected source -/

/-- What the selection among some sources is: none where none asserts, else one of them that asserts, with the highest level and of those
the lowest number (R210). -/
def State.IsBest (s : State) (ks : List Source) (best : Option Source) : Prop :=
  (best = none → ∀ k ∈ ks, (s.source k).asserts = false)
    ∧ ∀ b, best = some b → b ∈ ks ∧ (s.source b).asserts = true ∧ ∀ k ∈ ks, (s.source k).asserts = true →
        (s.source k).level ≤ (s.source b).level ∧ ((s.source k).level = (s.source b).level → b.index ≤ k.index)

section
variable {s : State}

theorem isBest_nil : s.IsBest [] none := ⟨fun _ => nofun, nofun⟩

/-- One more source of a higher number: it wins where its level is higher than the best so far, or where there is none so far (R210). -/
theorem isBest_preferred {ks : List Source} {best : Option Source} {k : Source} (h : s.IsBest ks best)
    (hlater : ∀ j ∈ ks, j.index < k.index) : s.IsBest (ks ++ [k]) (s.preferred best k) := by
  obtain ⟨hnone, hsome⟩ := h
  unfold State.preferred
  by_cases hk : (s.source k).asserts = true
  case neg =>
    rw [if_neg hk]
    refine ⟨fun hb j hj => ?_, fun b hb => ?_⟩
    · rcases List.mem_append.mp hj with hj | hj
      · exact hnone hb j hj
      · rw [List.mem_singleton.mp hj]
        exact Bool.eq_false_of_not_eq_true hk
    · obtain ⟨hmem, hb', hbest⟩ := hsome b hb
      refine ⟨List.mem_append_left _ hmem, hb', fun j hj hasserts => ?_⟩
      rcases List.mem_append.mp hj with hj | hj
      · exact hbest j hj hasserts
      · exact absurd (List.mem_singleton.mp hj ▸ hasserts) hk
  case pos =>
    have hlast : k ∈ ks ++ [k] := List.mem_append_right _ (List.mem_singleton.mpr rfl)
    rw [if_pos hk]
    cases best with
    | none =>
      refine ⟨nofun, fun b hb => ?_⟩
      cases hb
      refine ⟨hlast, hk, fun j hj hasserts => ?_⟩
      rcases List.mem_append.mp hj with hj | hj
      · exact absurd ((hnone rfl j hj).symm.trans hasserts) (by decide)
      · rw [List.mem_singleton.mp hj]
        exact ⟨Nat.le_refl _, fun _ => Fin.le_refl _⟩
    | some c =>
      obtain ⟨hmem, hc, hbest⟩ := hsome c rfl
      simp only
      split_ifs with hhigher
      · refine ⟨nofun, fun b hb => ?_⟩
        cases hb
        refine ⟨hlast, hk, fun j hj hasserts => ?_⟩
        rcases List.mem_append.mp hj with hj | hj
        · have hle := (hbest j hj hasserts).1
          exact ⟨by omega, fun heq => by omega⟩
        · rw [List.mem_singleton.mp hj]
          exact ⟨Nat.le_refl _, fun _ => Fin.le_refl _⟩
      · refine ⟨nofun, fun b hb => ?_⟩
        cases hb
        refine ⟨List.mem_append_left _ hmem, hc, fun j hj hasserts => ?_⟩
        rcases List.mem_append.mp hj with hj | hj
        · exact hbest j hj hasserts
        · rw [List.mem_singleton.mp hj]
          exact ⟨by omega, fun _ => (hlater c hmem).le⟩

theorem isBest_foldl (back : List Source) : ∀ {front : List Source} {best : Option Source}, s.IsBest front best →
    (front ++ back).Pairwise (fun j k => j.index < k.index) → s.IsBest (front ++ back) (back.foldl s.preferred best) := by
  induction back with
  | nil => intro front best h _; rwa [List.append_nil]
  | cons k rest ih =>
    intro front best h hsorted
    have hassoc : front ++ k :: rest = (front ++ [k]) ++ rest := by simp
    rw [List.foldl_cons, hassoc]
    refine ih (isBest_preferred h fun j hj => ?_) (hassoc ▸ hsorted)
    exact (List.pairwise_append.mp hsorted).2.2 j hj k List.mem_cons_self

theorem isBest_selected (s : State) : s.IsBest allSources s.selected :=
  isBest_foldl allSources isBest_nil (by decide)

end

/-! ## Conditions, and sources before work -/

theorem settled_iff (s : State) : s.settled = true ↔ s.isLoaded = true
    ∧ (∀ n ∈ ordinals, n ≤ s.recordCount → (s.record n).stage = .finished ∨ (s.record n).stage = .condemned)
    ∧ ∀ n ∈ ordinals, (s.record n).hold = .free := by
  simp only [State.settled, Bool.and_eq_true, List.all_eq_true, Bool.or_eq_true, decide_eq_true_eq, beq_iff_eq, or_assoc]
  refine and_congr_right fun _ => ⟨fun h => ⟨fun n hn hle => ?_, fun n hn => (h n hn).2⟩, fun h n hn => ⟨?_, h.2 n hn⟩⟩
  · exact (h n hn).1.resolve_left (Nat.not_lt.mpr hle)
  · rcases Nat.lt_or_ge s.recordCount n with hlt | hge
    · exact .inl hlt
    · exact .inr (h.1 n hn hge)

/-- Until the start-up check has ended every source stands as after reset (R197, R206). -/
theorem source_of_quiet {s : State} (quiet : s.QuietSafe) (h : s.phase ≠ .running) (k : Source) : s.source k = .afterReset := by
  cases hp : s.phase with
  | running => exact absurd hp h
  | resetAsserted => rw [quiet.1 hp]; exact source_reset k
  | starting => rw [quiet.2 hp]; exact source_reset k

/-! ## ACK EVENTS -/

theorem acknowledgeMask_eq (s : State) (mask : Nat) : s.acknowledgeMask mask = { s with attention := (s.acknowledgeMask mask).attention } := by
  have hfold : ∀ (ks : List Source) (a : Vector SourceState 12), ∃ b,
      ks.foldl (fun t k => if maskNames mask k then State.acknowledge t k else t) { s with attention := a } = { s with attention := b } := by
    intro ks
    induction ks with
    | nil => exact fun a => ⟨a, rfl⟩
    | cons k rest ih =>
      intro a
      rw [List.foldl_cons]
      cases maskNames mask k
      · exact ih a
      · exact ih _
  obtain ⟨b, hb⟩ := hfold allSources s.attention
  have hmask : s.acknowledgeMask mask = { s with attention := b } := hb
  rw [hmask]

theorem takeAckEvents_outOfRange (s : State) {mask : Nat} (h : 4096 ≤ mask) : takeAckEvents mask s = refuse s .outOfRange := by
  rw [takeAckEvents, if_pos h]

theorem takeAckEvents_inRange (s : State) {mask : Nat} (h : mask < 4096) :
    takeAckEvents mask s = done (s.acknowledgeMask mask) (s.acknowledgeMask mask).flagBytes := by
  rw [takeAckEvents, if_neg (Nat.not_le.mpr h)]

end Sys2Proof.Machine
namespace Sys2Proof.Claims
open Sys2Proof.Machine

theorem attentionLine_iff_exists (s : State) : s.attentionLine = true ↔
    ∃ k : Source, (s.source k).flag = true ∧ (s.source k).enable = true ∧ 1 ≤ (s.source k).level := by
  simp only [State.attentionLine_iff, SourceState.asserts_iff]

theorem flagBytes_eq (s : State) : s.flagBytes = allSources.flatMap (fun k => bit (s.source k).flag) := by
  simp only [State.flagBytes, flagByte_eq_bit]

/-- Settles O49: the mask's range decides; the acknowledged sources change, and with them no condition. -/
theorem ackEventsTable : Obligations.AckEventsTable := by
  unfold Obligations.AckEventsTable
  intro s mask hrun
  refine ⟨fun h => portCommand_unchanged hrun (takeAckEvents_outOfRange s h), fun h => ⟨s.acknowledgeMask mask, ?_,
    acknowledgeMask_eq s mask, source_acknowledgeMask s mask, attentionLine_iff_exists _⟩⟩
  have hframe := acknowledgeMask_eq s mask
  rw [← flagBytes_eq]
  exact portCommand_of_same_conditions hrun (takeAckEvents_inRange s h) (by rw [hframe]) (by rw [hframe]) (by rw [hframe]) (by rw [hframe])

/-- Settles O51: the line and the conditions by definition, the selection by the sources gone through in the order of their numbers. -/
theorem attentionLineAndSelection : Obligations.AttentionLineAndSelection := by
  unfold Obligations.AttentionLineAndSelection
  refine ⟨fun s => ?_, fun s u => ⟨State.flagStarts_attention s u, source_flagStarts s u⟩⟩
  obtain ⟨hnone, hsome⟩ := isBest_selected s
  refine ⟨attentionLine_iff_exists s, ⟨fun h => ?_, fun h => ?_⟩, fun k h => ?_, ?_, ?_, ?_, settled_iff s, fun hsafe hp => ?_⟩
  · rintro ⟨k, hk⟩
    exact absurd ((SourceState.asserts_iff _).mpr hk) (by rw [hnone h k (mem_allSources k)]; decide)
  · by_contra hne
    obtain ⟨b, hb⟩ := Option.ne_none_iff_exists'.mp hne
    exact h ⟨b, (SourceState.asserts_iff _).mp (hsome b hb).2.1⟩
  · obtain ⟨-, hasserts, hbest⟩ := hsome k h
    exact ⟨(SourceState.asserts_iff _).mp hasserts, fun j hj => hbest j (mem_allSources j) ((SourceState.asserts_iff _).mpr hj)⟩
  · simp [State.condition]
  · simp [State.condition]
  · simp [State.condition]
  · rw [Bool.eq_false_iff, Ne, attentionLine_iff_exists]
    rintro ⟨k, hflag, -, -⟩
    rw [source_of_quiet hsafe.1 hp k] at hflag
    cases hflag

end Sys2Proof.Claims
end

section
/-! PROOFS. The lookups of the Wheelset Table and the record snapshot byte by byte (O13). -/
namespace Sys2Proof.Machine

/-! ## Slices of a byte layout -/

/-- The `k` bytes at an offset. -/
def slice (p : List Byte) (off k : Nat) : List Byte := (p.drop off).take k

section
variable {a p : List Byte} {off k : Nat}

theorem slice_skip (h : a.length ≤ off) : slice (a ++ p) off k = slice p (off - a.length) k := by
  rw [slice, List.drop_append, List.drop_eq_nil_of_le h, List.nil_append, slice]

theorem slice_first (h : a.length ≤ k) : slice (a ++ p) 0 k = a ++ slice p 0 (k - a.length) := by
  rw [slice, List.drop_zero, List.take_append, List.take_of_length_le h, slice, List.drop_zero]

theorem slice_whole (h : a.length ≤ k) : slice a 0 k = a := by
  rw [slice, List.drop_zero, List.take_of_length_le h]

theorem slice_zero (p : List Byte) (off : Nat) : slice p off 0 = [] := List.take_zero

end

/-! ## The record snapshot -/

@[simp] theorem length_flagByte (b : Bool) : (flagByte b).length = 1 := length_be 1 _

@[simp] theorem length_positionBytes (p : Option Position) : (positionBytes p).length = 5 := by
  cases p <;> simp [positionBytes]

@[simp] theorem length_wheelBytes (w : Wheel) : (wheelBytes w).length = 11 := by simp [wheelBytes]

/-- The measurement block and its source, 23 bytes, 0 where there is no measurement (R218). -/
def measuredBytes (m : Option Measured) : List Byte :=
  ((m.map (fun m => measurementBytes m.block)).getD (be 22 0)) ++ be 1 ((m.map (fun m => m.source.code)).getD 0)

/-- The block fields, 5 bytes, 0 where the record is not blocked (R218). -/
def blockedBytes (b : Option BlockInfo) : List Byte :=
  be 3 ((b.map (·.heldBack)).getD 0) ++ be 1 ((b.map (·.reason.code)).getD 0) ++ be 1 ((b.map (·.blocker)).getD 0)

@[simp] theorem length_measuredBytes (m : Option Measured) : (measuredBytes m).length = 23 := by
  cases m <;> simp [measuredBytes, measurementBytes]

@[simp] theorem length_blockedBytes (b : Option BlockInfo) : (blockedBytes b).length = 5 := by simp [blockedBytes]

theorem measuredBytes_none : measuredBytes none = be 23 0 := by decide

theorem blockedBytes_none : blockedBytes none = be 5 0 := by decide

/-- The snapshot in the order of its fields. -/
theorem snapshot_eq (n : Nat) (r : Record) : snapshot n r =
    be 1 n ++ (be 1 (presence r) ++ (positionBytes r.position ++ (be 1 r.stage.code ++ (be 1 r.hold.code ++ (be 1 (holderCode r.holder)
      ++ (be 4 (r.serial.getD 0) ++ (measuredBytes r.measured ++ (flagByte r.doubtful ++ (be 3 (r.target.getD 0)
      ++ (be 3 (r.ownNeed.getD 0) ++ (blockedBytes r.blocked ++ (be 1 r.passesDone ++ (be 1 r.reopenCount ++ (flagByte r.verified
      ++ (flagByte r.waived ++ (flagByte r.unfit ++ be 1 ((r.condemnCause.map (·.code)).getD 0))))))))))))))))) := by
  unfold snapshot measuredBytes blockedBytes
  simp only [List.append_assoc]

theorem length_snapshot (n : Nat) (r : Record) : (snapshot n r).length = 55 := by simp [snapshot_eq]

section
variable (n : Nat) (r : Record)

theorem slice_snapshot_ordinal : slice (snapshot n r) 0 1 = be 1 n := by
  simp [snapshot_eq, slice_first, slice_zero]

theorem slice_snapshot_presence : slice (snapshot n r) 1 1 = be 1 (presence r) := by
  simp [snapshot_eq, slice_skip, slice_first, slice_zero]

theorem slice_snapshot_position : slice (snapshot n r) 2 5 = positionBytes r.position := by
  simp [snapshot_eq, slice_skip, slice_first, slice_zero]

theorem slice_snapshot_states : slice (snapshot n r) 7 3 = be 1 r.stage.code ++ be 1 r.hold.code ++ be 1 (holderCode r.holder) := by
  simp [snapshot_eq, slice_skip, slice_first, slice_zero]

theorem slice_snapshot_serial : slice (snapshot n r) 10 4 = be 4 (r.serial.getD 0) := by
  simp [snapshot_eq, slice_skip, slice_first, slice_zero]

theorem slice_snapshot_measured : slice (snapshot n r) 14 23 = measuredBytes r.measured := by
  simp [snapshot_eq, slice_skip, slice_first, slice_zero]

theorem slice_snapshot_doubtful : slice (snapshot n r) 37 1 = flagByte r.doubtful := by
  simp [snapshot_eq, slice_skip, slice_first, slice_zero]

theorem slice_snapshot_target : slice (snapshot n r) 38 3 = be 3 (r.target.getD 0) := by
  simp [snapshot_eq, slice_skip, slice_first, slice_zero]

theorem slice_snapshot_ownNeed : slice (snapshot n r) 41 3 = be 3 (r.ownNeed.getD 0) := by
  simp [snapshot_eq, slice_skip, slice_first, slice_zero]

theorem slice_snapshot_blocked : slice (snapshot n r) 44 5 = blockedBytes r.blocked := by
  simp [snapshot_eq, slice_skip, slice_first, slice_zero]

theorem slice_snapshot_counts : slice (snapshot n r) 49 2 = be 1 r.passesDone ++ be 1 r.reopenCount := by
  simp [snapshot_eq, slice_skip, slice_first, slice_zero]

theorem slice_snapshot_marks : slice (snapshot n r) 51 3 = flagByte r.verified ++ flagByte r.waived ++ flagByte r.unfit := by
  simp [snapshot_eq, slice_skip, slice_first, slice_zero]

theorem slice_snapshot_cause : slice (snapshot n r) 54 1 = be 1 ((r.condemnCause.map (·.code)).getD 0) := by
  simp [snapshot_eq, slice_skip, slice_whole]

/-- A part of the measurement's 23 bytes stands 14 bytes further in the snapshot. -/
theorem slice_snapshot_in_measured {off k : Nat} (h : off + k ≤ 23) :
    slice (snapshot n r) (14 + off) k = slice (measuredBytes r.measured) off k := by
  rw [← slice_snapshot_measured n r, slice, slice, slice, List.drop_take, List.take_take, List.drop_drop, min_eq_left (by omega)]

/-- The measurement in the order of its fields, left wheel first (R218). -/
theorem measuredBytes_some (m : Measured) : measuredBytes (some m) =
    be 3 m.block.left.diameter ++ (be 2 m.block.left.thickness ++ (be 2 m.block.left.height ++ (be 2 m.block.left.steepness
      ++ (be 2 m.block.left.defect ++ (be 3 m.block.right.diameter ++ (be 2 m.block.right.thickness ++ (be 2 m.block.right.height
      ++ (be 2 m.block.right.steepness ++ (be 2 m.block.right.defect ++ be 1 m.source.code))))))))) := by
  simp [measuredBytes, measurementBytes, wheelBytes]

end

/-! ## Codes -/

theorem class_code (c : BogieClass) : c.code = if c = .motor then 1 else 2 := by cases c <;> rfl

theorem holder_code (h : Option StationId) : holderCode h = if h = some .a then 1 else if h = some .b then 2 else 0 := by
  rcases h with - | (- | -) <;> rfl

theorem source_code (x : MeasurementSource) : x.code = if x = .gauge then 0 else if x = .stationA then 1 else 2 := by cases x <;> rfl

theorem blockReason_code (x : BlockReason) : x.code = if x = .exemptMember then 1 else if x = .reopenLimit then 2 else 3 := by
  cases x <;> rfl

theorem condemnCause_code (c : Option CondemnCause) : (c.map (·.code)).getD 0 =
    if c = some .ownWear then 1 else if c = some .overcut then 2 else if c = some .ruling then 3 else 0 := by
  rcases c with - | (- | - | -) <;> rfl

theorem mul_yesNo (v : Nat) (b : Bool) : v * yesNo b = if b then v else 0 := by cases b <;> simp [yesNo]

theorem yesNo_eq (b : Bool) : yesNo b = if b then 1 else 0 := rfl

theorem stageOf_eq_none_iff (n : Nat) : stageOf n = none ↔ 5 < n := by
  rcases Nat.lt_or_ge 5 n with h | h
  · obtain ⟨k, rfl⟩ : ∃ k, n = k + 6 := ⟨n - 6, by omega⟩
    exact ⟨fun _ => h, fun _ => rfl⟩
  · interval_cases n <;> exact ⟨nofun, fun h => absurd h (by decide)⟩

end Sys2Proof.Machine
namespace Sys2Proof.Claims
open Sys2Proof.Machine

section
variable {s : State} (n : Nat) (hrun : s.phase = .running)
include hrun

theorem exec_lookupOrdinal : exec (.lookupOrdinal n) s = if n < 1 ∨ 64 < n then replied s (.lookupOrdinal n) .badOrdinal []
    else replied s (.lookupOrdinal n) .done (s.snapshot n) := by
  split_ifs with h
  · exact portCommand_unchanged hrun (if_pos (by rw [Bool.not_eq_true', not_ordinalInRange_iff]; exact h))
  · exact portCommand_unchanged hrun (if_neg (by rw [Bool.not_eq_true', not_ordinalInRange_iff]; exact h))

theorem exec_lookupSerial : exec (.lookupSerial n) s =
    if n = 0 then replied s (.lookupSerial n) .outOfRange []
    else match s.serialMap.find? (fun e => e.1 == n) with
      | none => replied s (.lookupSerial n) .notFound []
      | some e => replied s (.lookupSerial n) .done (be 1 e.2 ++ s.snapshot e.2) := by
  split_ifs with h
  · exact portCommand_unchanged hrun (by simp only [takeLookupSerial, h]; rfl)
  · split
    · rename_i hfind
      exact portCommand_unchanged hrun (by simp only [takeLookupSerial, serialOrdinal, hfind, beq_iff_eq, if_neg h]; rfl)
    · rename_i e hfind
      exact portCommand_unchanged hrun (by simp only [takeLookupSerial, serialOrdinal, hfind, beq_iff_eq, if_neg h]; rfl)

theorem exec_listStage : exec (.listStage n) s =
    match stageOf n with
    | none => replied s (.listStage n) .outOfRange []
    | some g =>
      let found := ordinals.filter (fun m => (s.record m).stage == g)
      replied s (.listStage n) .done (be 1 found.length ++ found.flatMap (be 1)) := by
  split
  · rename_i h
    exact portCommand_unchanged hrun (by simp only [takeListStage, h]; rfl)
  · rename_i g h
    exact portCommand_unchanged hrun (by simp only [takeListStage, h]; rfl)

end

/-- The measurement's fields in the snapshot (R218). -/
theorem slice_snapshot_of_measured (n : Nat) (r : Record) {m : Measured} (hm : r.measured = some m) :
    slice (snapshot n r) 14 3 = be 3 m.block.left.diameter ∧ slice (snapshot n r) 17 2 = be 2 m.block.left.thickness
      ∧ slice (snapshot n r) 19 2 = be 2 m.block.left.height ∧ slice (snapshot n r) 21 2 = be 2 m.block.left.steepness
      ∧ slice (snapshot n r) 23 2 = be 2 m.block.left.defect
      ∧ slice (snapshot n r) 25 3 = be 3 m.block.right.diameter ∧ slice (snapshot n r) 28 2 = be 2 m.block.right.thickness
      ∧ slice (snapshot n r) 30 2 = be 2 m.block.right.height ∧ slice (snapshot n r) 32 2 = be 2 m.block.right.steepness
      ∧ slice (snapshot n r) 34 2 = be 2 m.block.right.defect
      ∧ slice (snapshot n r) 36 1 = be 1 (if m.source = .gauge then 0 else if m.source = .stationA then 1 else 2) := by
  have hin : ∀ off k, off + k ≤ 23 → slice (snapshot n r) (14 + off) k = slice (measuredBytes (some m)) off k :=
    fun off k h => hm ▸ slice_snapshot_in_measured n r h
  rw [measuredBytes_some] at hin
  rw [hin 0 3 (by decide), hin 3 2 (by decide), hin 5 2 (by decide), hin 7 2 (by decide), hin 9 2 (by decide), hin 11 3 (by decide),
    hin 14 2 (by decide), hin 16 2 (by decide), hin 18 2 (by decide), hin 20 2 (by decide), hin 22 1 (by decide), ← source_code]
  simp [slice_skip, slice_first, slice_whole, slice_zero]

/-- Settles O13: each lookup answers and changes nothing; the snapshot field by field. -/
theorem tableLookups : Obligations.TableLookups := by
  unfold Obligations.TableLookups
  intro s n hrun
  refine ⟨exec_lookupOrdinal n hrun, exec_lookupSerial n hrun, exec_listStage n hrun, stageOf_eq_none_iff n, ?_⟩
  intro r bytes present
  have hbytes : ∀ off k, bytes off k = slice (snapshot n r) off k := fun _ _ => rfl
  simp only [hbytes]
  refine ⟨?length, ?ordinal, ?presence, fun hp => ?noPosition, fun p hp => ?position, ?states, ?serial, fun hm => ?noMeasured,
    fun m hm => ?measured, ?doubtful, ?target, ?ownNeed, fun hb => ?notBlocked, fun b hb => ?blocked, ?counts, ?marks, ?cause⟩
  case length => exact length_snapshot n r
  case ordinal => exact slice_snapshot_ordinal n r
  case serial => exact slice_snapshot_serial n r
  case target => exact slice_snapshot_target n r
  case ownNeed => exact slice_snapshot_ownNeed n r
  case counts => exact slice_snapshot_counts n r
  case presence =>
    rw [slice_snapshot_presence]
    simp only [presence, mul_yesNo, present]
    rfl
  case noPosition => rw [slice_snapshot_position, hp, positionBytes]
  case position => rw [slice_snapshot_position, hp, positionBytes, class_code]
  case states => rw [slice_snapshot_states, holder_code]
  case noMeasured => rw [slice_snapshot_measured, hm, measuredBytes_none]
  case measured => exact slice_snapshot_of_measured n r hm
  case doubtful => rw [slice_snapshot_doubtful, flagByte_eq_bit]
  case notBlocked => rw [slice_snapshot_blocked, hb, blockedBytes_none]
  case blocked =>
    rw [slice_snapshot_blocked, hb, ← blockReason_code]
    rfl
  case marks => simp only [slice_snapshot_marks, flagByte_eq_bit]
  case cause => rw [slice_snapshot_cause, condemnCause_code]

end Sys2Proof.Claims
end

section
/-! PROOFS. The reads by the blocks, item by item (O48). -/
namespace Sys2Proof.Claims
open Sys2Proof.Machine

theorem optional_eq (k : Nat) (o : Option Nat) : Machine.optional k o = bit o.isSome ++ be k (o.getD 0) := by
  rw [Machine.optional, flagByte_eq_bit]

theorem be_one_zero : be 1 0 = [0#8] := by decide

theorem be_one_one : be 1 1 = [1#8] := by decide

theorem be_one_two : be 1 2 = [2#8] := by decide

theorem flagByte_false : flagByte false = [0#8] := be_one_zero

theorem flagByte_true : flagByte true = [1#8] := be_one_one

/-! ## Groups -/

theorem groupBytes_eq (s : State) (g : Group) : s.groupBytes g =
    be 1 g.kind.code ++ be 1 g.index ++ be 1 g.cls.code ++ be 2 g.tolerance ++ bit g.floor.isSome ++ be 3 (g.floor.getD 0)
      ++ be 1 g.members.length ++ g.members.flatMap (fun m =>
        be 1 m ++ bit (s.record m).counted ++ bit (s.record m).target.isSome ++ be 3 ((s.record m).target.getD 0)) := by
  have hmember : s.memberBytes = fun m =>
      be 1 m ++ bit (s.record m).counted ++ bit (s.record m).target.isSome ++ be 3 ((s.record m).target.getD 0) := by
    funext m
    simp only [State.memberBytes, optional_eq, flagByte_eq_bit, List.append_assoc]
  simp only [State.groupBytes, hmember, optional_eq, List.append_assoc]

theorem maxGroupIndex_eq (k : GroupKind) : maxGroupIndex k = if k = .bogie then 32 else 16 := by cases k <;> rfl

theorem groups_eq (s : State) (k : GroupKind) : s.groups k = if k = .bogie then s.bogieGroups else s.carGroups := by cases k <;> rfl

theorem takeReadGroup_of_kind {s : State} {a : Nat} {k : GroupKind} (h : groupKindOf a = some k) (b : Nat) : takeReadGroup a b s =
    if b < 1 ∨ (if k = .bogie then 32 else 16) < b then refuse s .outOfRange
    else
      match (if k = .bogie then s.bogieGroups else s.carGroups).find? (fun g => g.index == b) with
      | none => refuse s .notFound
      | some g => done s (s.groupBytes g) := by
  simp only [takeReadGroup, h, Bool.or_eq_true, decide_eq_true_eq, maxGroupIndex_eq, groups_eq] <;> rfl

/-! ## The visit -/

theorem windowBytes_eq (w : Option Window) : windowBytes w = windowShown w := by
  cases w with
  | none => rfl
  | some w => simp only [windowBytes, windowShown, flagByte_eq_bit]; rfl

theorem stageCounts_eq (s : State) : s.stageCounts =
    be 1 (s.stageCount .vacant) ++ be 1 (s.stageCount .announced) ++ be 1 (s.stageCount .planned) ++ be 1 (s.stageCount .finished)
      ++ be 1 (s.stageCount .blocked) ++ be 1 (s.stageCount .condemned) := by
  simp [State.stageCounts, allStages]

theorem loadedCarBytes_eq (c : Car) : loadedCarBytes c =
    be 1 (if c.class1 = .motor then 1 else 2) ++ be 1 (if c.class2 = .motor then 1 else 2) ++ be 1 c.profile := by
  rw [loadedCarBytes, class_code, class_code]

/-- The visit state and the identity, 14 bytes (R98, R214). -/
theorem visitHead_eq (v : Visit) : be 1 (visitCode v) ++ identityBytes v.identity =
    match v with
    | .noVisit => [0#8] ++ be 4 0 ++ be 8 0
    | .opened id => [1#8, 1#8] ++ be 2 id.number ++ [1#8] ++ id.trainCode
    | .loaded id _ => [2#8, 1#8] ++ be 2 id.number ++ [1#8] ++ id.trainCode := by
  cases v
  case noVisit => decide
  all_goals simp [visitCode, identityBytes, Visit.identity, flagByte_true, be_one_one, be_one_two]

theorem consistBytes_eq (s : State) : flagByte s.isLoaded ++ be 1 s.consist.length ++ s.consist.flatMap loadedCarBytes =
    match s.visit with
    | .loaded _ cars => [1#8] ++ be 1 cars.length ++ cars.flatMap (fun c =>
        be 1 (if c.class1 = .motor then 1 else 2) ++ be 1 (if c.class2 = .motor then 1 else 2) ++ be 1 c.profile)
    | _ => [0#8, 0#8] := by
  have hcar : loadedCarBytes = fun c =>
      be 1 (if c.class1 = .motor then 1 else 2) ++ be 1 (if c.class2 = .motor then 1 else 2) ++ be 1 c.profile :=
    funext loadedCarBytes_eq
  rw [hcar]
  cases hv : s.visit <;>
    simp [State.isLoaded, State.consist, hv, flagByte_false, flagByte_true, be_one_zero]

theorem visitBytes_eq (s : State) : s.visitBytes =
    (match s.visit with
      | .noVisit => [0#8] ++ be 4 0 ++ be 8 0
      | .opened id => [1#8, 1#8] ++ be 2 id.number ++ [1#8] ++ id.trainCode
      | .loaded id _ => [2#8, 1#8] ++ be 2 id.number ++ [1#8] ++ id.trainCode)
    ++ (match s.visit with
      | .loaded _ cars => [1#8] ++ be 1 cars.length ++ cars.flatMap (fun c =>
          be 1 (if c.class1 = .motor then 1 else 2) ++ be 1 (if c.class2 = .motor then 1 else 2) ++ be 1 c.profile)
      | _ => [0#8, 0#8])
    ++ windowShown s.window1 ++ windowShown s.window2 ++ bit (s.condition .visitSettled)
    ++ be 1 (s.stageCount .vacant) ++ be 1 (s.stageCount .announced) ++ be 1 (s.stageCount .planned)
    ++ be 1 (s.stageCount .finished) ++ be 1 (s.stageCount .blocked) ++ be 1 (s.stageCount .condemned) := by
  rw [← visitHead_eq, ← consistBytes_eq, ← windowBytes_eq, ← windowBytes_eq, ← flagByte_eq_bit]
  simp only [State.visitBytes, stageCounts_eq, List.append_assoc]
  rfl

/-! ## A station -/

theorem counting_eq (c : StationContext) :
    c.counting = decide (c.passInFlight = true ∧ c.suspended = false ∧ c.watch ≠ 0) := by
  unfold StationContext.counting
  cases c.passInFlight <;> cases c.suspended <;> by_cases h : c.watch = 0 <;> simp [h]

theorem stationBytes_eq (s : State) (st : StationId) : s.stationBytes st =
    let c := s.station st
    bit c.enabled ++ be 1 (c.held.getD 0)
      ++ (match c.held with
        | none => [0#8]
        | some n => be 1 (s.record n).hold.code)
      ++ (match c.grant with
        | none => [0#8, 0#8, 0#8]
        | some depth => [1#8] ++ be 2 depth)
      ++ bit c.passInFlight ++ bit c.suspended ++ be 2 c.watch
      ++ bit (decide (c.passInFlight = true ∧ c.suspended = false ∧ c.watch ≠ 0))
      ++ (match c.cursor with
        | none => [0#8, 0#8, 0#8]
        | some k => [1#8] ++ be 1 k.profile ++ be 1 k.next) := by
  have hheld : ∀ o : Option Nat, be 1 ((o.map (fun n => (s.record n).hold.code)).getD 0) =
      match o with
      | none => [0#8]
      | some n => be 1 (s.record n).hold.code := fun o => by cases o <;> simp [be_one_zero]
  have hgrant : ∀ o : Option Nat, optional 2 o =
      match o with
      | none => [0#8, 0#8, 0#8]
      | some depth => [1#8] ++ be 2 depth := fun o => by
    cases o
    · decide
    · simp [Machine.optional, flagByte_true]
  have hcursor : ∀ o : Option Cursor, flagByte o.isSome ++ be 1 ((o.map (·.profile)).getD 0) ++ be 1 ((o.map (·.next)).getD 0) =
      match o with
      | none => [0#8, 0#8, 0#8]
      | some k => [1#8] ++ be 1 k.profile ++ be 1 k.next := fun o => by
    cases o <;> simp [flagByte_false, flagByte_true, be_one_zero]
  simp only [← hheld, ← hgrant, ← hcursor, ← counting_eq, ← flagByte_eq_bit]
  simp only [State.stationBytes, ordinalByte, List.append_assoc]

/-! ## A page -/

theorem writeInFlight_eq_some_iff (s : State) (n : Nat) :
    s.writeInFlight = some n ↔ s.catalogue = .committing ∧ s.staging.page = some n := by
  unfold State.writeInFlight
  cases s.catalogue <;> simp

theorem contentsBytes_eq (c : PageContents) : contentsBytes c =
    match c with
    | .profile i _ => headerBytes i.header ++ (i.slots.toList.take i.header.pointCount).flatMap pointBytes
    | .limits v _ => limitsBytes v
    | _ => [] := by
  cases c <;> rfl

theorem takeReadPage_eq (s : State) (a : Nat) : takeReadPage a s =
    if 16 < a then refuse s .outOfRange
    else if s.catalogue = .committing ∧ s.staging.page = some a then refuse s .storeBusy
    else done s (be 1 a ++ be 1 (s.statusOf a).code ++ if s.statusOf a = .valid then contentsBytes (s.page a) else []) := by
  simp only [takeReadPage, beq_iff_eq, writeInFlight_eq_some_iff, State.readContents]

/-! ## The sources -/

theorem sourceBytes_eq (x : SourceState) : sourceBytes x = bit x.flag ++ bit x.enable ++ be 1 x.level := by
  rw [sourceBytes, flagByte_eq_bit, flagByte_eq_bit]

theorem attentionBytes_eq (s : State) : s.attentionBytes =
    bit s.selected.isSome ++ be 1 ((s.selected.map (fun k => k.index.val)).getD 0)
      ++ allSources.flatMap (fun k => bit (s.source k).flag ++ bit (s.source k).enable ++ be 1 (s.source k).level) := by
  simp only [State.attentionBytes, optional_eq, sourceBytes_eq, Option.isSome_map]

/-- Settles O48: each read answers and changes nothing; its items are those of the layouts. -/
theorem blockReads : Obligations.BlockReads := by
  unfold Obligations.BlockReads
  intro s a b hrun
  refine ⟨?group, portCommand_unchanged hrun rfl, ?visit, ?station, ?alignment, ?page, ?attention⟩
  case group =>
    split
    · rename_i hkind
      exact portCommand_unchanged hrun (by simp only [takeReadGroup, hkind]; rfl)
    · rename_i k hkind
      by_cases hrange : b < 1 ∨ (if k = .bogie then 32 else 16) < b
      · rw [if_pos hrange]
        exact portCommand_unchanged hrun ((takeReadGroup_of_kind hkind b).trans (if_pos hrange))
      · rw [if_neg hrange]
        split
        · rename_i hfind
          exact portCommand_unchanged hrun ((takeReadGroup_of_kind hkind b).trans (by rw [if_neg hrange, hfind]; rfl))
        · rename_i g hfind
          rw [← groupBytes_eq]
          exact portCommand_unchanged hrun ((takeReadGroup_of_kind hkind b).trans (by rw [if_neg hrange, hfind]; rfl))
  case visit =>
    have hvisit : exec .readVisit s = replied s .readVisit .done s.visitBytes := portCommand_unchanged hrun rfl
    exact hvisit.trans (congrArg (replied s .readVisit .done) (visitBytes_eq s))
  case station =>
    split
    · rename_i hst
      exact portCommand_unchanged hrun (by simp only [takeReadStation, hst]; rfl)
    · rename_i st hst
      refine (portCommand_unchanged hrun (r := { reason := .done, body := s.stationBytes st })
        (by simp only [takeReadStation, hst]; rfl)).trans ?_
      rw [stationBytes_eq]
      rfl
  case alignment =>
    have hread : exec .readAlignment s = replied s .readAlignment .done s.interlockBytes := portCommand_unchanged hrun rfl
    rw [hread]
    congr 1
    simp only [State.interlockBytes, flagByte_eq_bit, alignmentBytes, State.heldBytes, ordinalByte, State.moveGrant, List.append_assoc]
  case page =>
    have htake := takeReadPage_eq s a
    split_ifs with hrange hbusy hvalid
    · exact portCommand_unchanged hrun (htake.trans (if_pos hrange))
    · exact portCommand_unchanged hrun (htake.trans (by rw [if_neg hrange, if_pos hbusy]; rfl))
    · rw [if_neg hrange, if_neg hbusy, if_pos hvalid, contentsBytes_eq] at htake
      exact portCommand_unchanged hrun htake
    · rw [if_neg hrange, if_neg hbusy, if_neg hvalid] at htake
      exact portCommand_unchanged hrun htake
  case attention =>
    rw [← attentionBytes_eq]
    exact portCommand_unchanged hrun rfl

end Sys2Proof.Claims
end

section
/-! PROOFS. Opening and closing a visit and setting its windows (O24, O26, O27). -/
namespace Sys2Proof.Machine

/-! ## Commands that start no condition -/

/-- A host command that starts no condition ends with its own writes and its answer (R202, R208). -/
theorem portCommand_of_no_start {i : Instr} {owner : State → Taken} {s t : State} {r : Reply} (h : s.phase = .running)
    (ho : owner s = (t, r)) (hstart : ∀ k, t.condition k = true → s.condition k = true) :
    portCommand i owner s = .next (t.answerCommand i r) := by
  rw [portCommand_running h, ho, State.flagStarts_of_no_start s t hstart]

theorem condition_openVisit (s : State) (id : VisitIdentity) (k : Source)
    (h : State.condition { s with visit := .opened id, window1 := none, window2 := none } k = true) : s.condition k = true := by
  cases k
  case visitSettled => cases h
  all_goals exact h

theorem condition_close (s : State) (k : Source) (h : s.close.condition k = true) : s.condition k = true := by
  have hrecord : ∀ n, s.close.record n = Record.vacant := tableGet_replicate
  cases k
  case blocked => simp [State.condition, hrecord, Record.vacant] at h
  case moveWaiting => exact h
  all_goals cases h

/-! ## Checks -/

theorem textChar_iff (b : Byte) : textChar b = true ↔
    (48 ≤ b.toNat ∧ b.toNat ≤ 57) ∨ (65 ≤ b.toNat ∧ b.toNat ≤ 90) ∨ b.toNat = 32 ∨ b.toNat = 45 := by
  simp [textChar, or_assoc]

theorem not_all_textChar_iff (code : List Byte) : (!code.all textChar) = true ↔
    ∃ b ∈ code, ¬ ((48 ≤ b.toNat ∧ b.toNat ≤ 57) ∨ (65 ≤ b.toNat ∧ b.toNat ≤ 90) ∨ b.toNat = 32 ∨ b.toNat = 45) := by
  simp only [Bool.not_eq_true', List.all_eq_false, textChar_iff]

theorem noVisit_iff (s : State) : s.noVisit = true ↔ s.visit = .noVisit := by
  unfold State.noVisit
  cases s.visit <;> simp

theorem takeOpenVisit_eq (number : Nat) (code : List Byte) (s : State) : takeOpenVisit number code s =
    if s.visit ≠ .noVisit then refuse s .visitOpen
    else if s.catalogue ≠ .closed then refuse s .catalogueOpen
    else if s.statusOf 16 ≠ .valid then refuse s .noLimits
    else if number = 0 ∨ ∃ b ∈ code, ¬ ((48 ≤ b.toNat ∧ b.toNat ≤ 57) ∨ (65 ≤ b.toNat ∧ b.toNat ≤ 90) ∨ b.toNat = 32 ∨ b.toNat = 45) then
      refuse s .outOfRange
    else done { s with visit := .opened { number := number, trainCode := code }, window1 := none, window2 := none } [] := by
  have hvisit : (!s.noVisit) = true ↔ s.visit ≠ .noVisit := by
    rw [Bool.not_eq_true', Bool.eq_false_iff, Ne, noVisit_iff]
  unfold takeOpenVisit
  simp only [hvisit, bne_iff_ne, Bool.or_eq_true, not_all_textChar_iff, beq_iff_eq, Config.limitsPage]

theorem takeSetWindow_eq (w base limit : Nat) (s : State) : takeSetWindow w base limit s =
    if s.isLoaded = false then refuse s .notLoaded
    else if w < 1 ∨ 2 < w ∨ base < 1 ∨ 64 < base ∨ limit < 1 ∨ 64 < limit then refuse s .outOfRange
    else if w = 1 then done { s with window1 := some { base := base, limit := limit } } []
    else done { s with window2 := some { base := base, limit := limit } } [] := by
  have hrange : (!(decide (1 ≤ w) && decide (w ≤ 2)) || !windowOrdinal base || !windowOrdinal limit) = true ↔
      w < 1 ∨ 2 < w ∨ base < 1 ∨ 64 < base ∨ limit < 1 ∨ 64 < limit := by
    simp only [windowOrdinal, Bool.or_eq_true, Bool.not_eq_true', Bool.and_eq_false_iff, decide_eq_false_iff_not, not_le, or_assoc]
  unfold takeSetWindow
  simp only [hrange, Bool.not_eq_true', beq_iff_eq]

theorem covers_iff (w : Option Window) (n : Nat) : covers w n = true ↔ ∃ x ∈ w, x.base ≤ n ∧ n ≤ x.limit := by
  cases w with
  | none => simp [covers]
  | some x =>
    simp only [covers, Window.active, Bool.and_eq_true, decide_eq_true_eq, Option.mem_some_iff, exists_eq_left']
    omega

theorem exempt_iff (s : State) (n : Nat) : s.exempt n = true ↔
    (∃ w ∈ s.window1, w.base ≤ n ∧ n ≤ w.limit) ∨ ∃ w ∈ s.window2, w.base ≤ n ∧ n ≤ w.limit := by
  rw [State.exempt, Bool.or_eq_true, covers_iff, covers_iff]

theorem recordHeld_iff (s : State) : s.recordHeld = true ↔ ∃ n ∈ ordinals, (s.record n).hold ≠ .free := by
  simp [State.recordHeld]

theorem unsettled_iff (s : State) : s.unsettled = true ↔
    ∃ n ∈ ordinals, (s.record n).stage = .announced ∨ (s.record n).stage = .planned ∨ (s.record n).stage = .blocked := by
  simp [State.unsettled, or_assoc]

theorem closeKindOf_eq (kind : Nat) : closeKindOf kind = if kind = 1 then some .normal else if kind = 2 then some .forced else none := by
  unfold closeKindOf
  split
  · rfl
  · rfl
  · rename_i h1 h2
    rw [if_neg h1, if_neg h2]

theorem takeCloseVisit_of_identity {s : State} {id : VisitIdentity} (h : s.visit.identity = some id) (kind : Nat) :
    takeCloseVisit kind s =
      if kind ≠ 1 ∧ kind ≠ 2 then refuse s .outOfRange
      else if ∃ n ∈ ordinals, (s.record n).hold ≠ .free then refuse s .holdsPresent
      else if kind = 1 ∧ ∃ n ∈ ordinals,
          (s.record n).stage = .announced ∨ (s.record n).stage = .planned ∨ (s.record n).stage = .blocked then refuse s .unsettled
      else done s.close (s.closeBytes id) := by
  simp only [takeCloseVisit, h, closeKindOf_eq, ← recordHeld_iff, ← unsettled_iff]
  by_cases h1 : kind = 1
  · simp [h1]
  · by_cases h2 : kind = 2
    · simp [h2]
    · simp [h1, h2]

/-- Every record is in one of the six stages (R96). -/
theorem stageCount_sum (s : State) : s.stageCount .vacant + s.stageCount .announced + s.stageCount .planned + s.stageCount .finished
    + s.stageCount .blocked + s.stageCount .condemned = 64 := by
  have hsum : ∀ ns : List Nat,
      (ns.filter (fun n => (s.record n).stage == .vacant)).length + (ns.filter (fun n => (s.record n).stage == .announced)).length
        + (ns.filter (fun n => (s.record n).stage == .planned)).length + (ns.filter (fun n => (s.record n).stage == .finished)).length
        + (ns.filter (fun n => (s.record n).stage == .blocked)).length + (ns.filter (fun n => (s.record n).stage == .condemned)).length
        = ns.length := by
    intro ns
    induction ns with
    | nil => rfl
    | cons n rest ih => cases hg : (s.record n).stage <;> simp [hg] <;> omega
  exact (hsum ordinals).trans (by decide)

end Sys2Proof.Machine
namespace Sys2Proof.Claims
open Sys2Proof.Machine

/-- Settles O24: the checks in order; an opened visit starts no condition. -/
theorem openVisitTable : Obligations.OpenVisitTable := by
  unfold Obligations.OpenVisitTable
  intro s number code hrun
  have htake := takeOpenVisit_eq number code s
  simp only
  split_ifs at htake ⊢
  case neg => exact portCommand_of_no_start hrun htake (condition_openVisit s _)
  all_goals exact portCommand_unchanged hrun htake

/-- Settles O26: the checks in order; no condition reads a window. -/
theorem setWindowTable : Obligations.SetWindowTable := by
  unfold Obligations.SetWindowTable
  refine ⟨fun s w base limit hrun => ?_, exempt_iff⟩
  have htake := takeSetWindow_eq w base limit s
  simp only
  split_ifs at htake ⊢
  · exact portCommand_unchanged hrun htake
  · exact portCommand_unchanged hrun htake
  · exact portCommand_of_same_conditions hrun htake rfl rfl rfl rfl
  · exact portCommand_of_same_conditions hrun htake rfl rfl rfl rfl

/-- Settles O27: the checks in order; a closed visit starts no condition. -/
theorem closeVisitTable : Obligations.CloseVisitTable := by
  unfold Obligations.CloseVisitTable
  intro s kind hrun
  refine ⟨fun h => portCommand_unchanged hrun (by simp only [takeCloseVisit, h]; rfl), fun id h => ?_, stageCount_sum s⟩
  have htake := takeCloseVisit_of_identity h kind
  split_ifs at htake ⊢
  · exact portCommand_unchanged hrun htake
  · exact portCommand_unchanged hrun htake
  · exact portCommand_unchanged hrun htake
  · refine (portCommand_of_no_start hrun htake (condition_close s)).trans ?_
    simp only [State.closeBytes, stageCounts_eq, List.append_assoc]
    rfl

end Sys2Proof.Claims
end

section
/-! PROOFS. The catalogue, the staging commands, COMMIT, and the end of a store write (O44, O46, O47). -/
namespace Sys2Proof.Machine

section
variable (s : State)

theorem whenOpen_eq (t : Taken) : whenOpen s t =
    if s.catalogue = .closed then refuse s .catalogueClosed
    else if s.catalogue = .committing then refuse s .storeBusy
    else t := by
  unfold whenOpen
  cases s.catalogue <;> simp

theorem takeOpenCatalogue_eq : takeOpenCatalogue s =
    if s.visit ≠ .noVisit then refuse s .visitOpen
    else if s.catalogue = .committing then refuse s .storeBusy
    else done { s with catalogue := .opened, staging := .empty } [] := by
  have hvisit : (!s.noVisit) = true ↔ s.visit ≠ .noVisit := by
    rw [Bool.not_eq_true', Bool.eq_false_iff, Ne, noVisit_iff]
  simp only [takeOpenCatalogue, hvisit, beq_iff_eq]

theorem takeCloseCatalogue_eq : takeCloseCatalogue s =
    if s.catalogue = .committing then refuse s .storeBusy else done { s with catalogue := .closed, staging := .empty } [] := by
  simp only [takeCloseCatalogue, beq_iff_eq]

end

/-! ## COMMIT -/

section
variable {s : State} (hopen : s.catalogue = .opened)
include hopen

theorem takeCommit_of_empty (h : s.staging = .empty) : takeCommit s = refuse s .nothingStaged := by
  simp only [takeCommit, whenOpen_of_opened hopen, h, Staging.page]

theorem takeCommit_of_fault {n code : Nat} (hpage : s.staging.page = some n) (h : s.staging.fault = some code) :
    takeCommit s = refuseWith s .outOfRange (be 1 code) := by
  simp only [takeCommit, whenOpen_of_opened hopen, hpage, h]

theorem takeCommit_of_no_fault {n : Nat} (hpage : s.staging.page = some n) (h : s.staging.fault = none) :
    takeCommit s = done { s with catalogue := .committing } (be 1 n) := by
  simp only [takeCommit, whenOpen_of_opened hopen, hpage, h]

end

/-! ## The end of a write -/

theorem writeInFlight_of_committing {s : State} {n : Nat} (h : s.catalogue = .committing) (hpage : s.staging.page = some n) :
    s.writeInFlight = some n := by
  simp [State.writeInFlight, h, hpage]

theorem writeInFlight_of_not_committing {s : State} (h : s.catalogue ≠ .committing) : s.writeInFlight = none := by
  simp [State.writeInFlight, h]

theorem execStoreCompletion_of_write {s : State} {n : Nat} (h : s.writeInFlight = some n) (c : PageContents) :
    execStoreCompletion c s = .next (s.completeWrite n c) := by
  simp only [execStoreCompletion, h]

theorem execStoreCompletion_of_no_write {s : State} (h : s.writeInFlight = none) (c : PageContents) :
    execStoreCompletion c s = .next s := by
  simp only [execStoreCompletion, h]

/-- A staged image for some page leaves the page EMPTY where it is an erasure, else VALID (R193). -/
theorem goodStatus_of_page {x : Staging} {n : Nat} (h : x.page = some n) : x.goodStatus =
    match (generalizing := false) x with
    | .erase _ => .empty
    | _ => .valid := by
  cases x with
  | empty => cases h
  | profile | limits | erase => rfl

theorem limitsAfter_eq (old : LimitValues) (x : Staging) : x.limitsAfter old =
    match x with
    | .limits v => v
    | _ => old := by
  cases x <;> rfl

theorem completeWrite_of_good (s : State) {n : Nat} (hpage : s.staging.page = some n) : s.completeWrite n s.staging.committed =
    State.flag { s with
      pages := s.pages.setIfInBounds n s.staging.committed, catalogue := .opened
      pageStatus := s.pageStatus.setIfInBounds n (match s.staging with
        | .erase _ => .empty
        | _ => .valid)
      limits := match s.staging with
        | .limits v => v
        | _ => s.limits } .storeDone := by
  rw [← goodStatus_of_page hpage, ← limitsAfter_eq]
  simp only [State.completeWrite, beq_self_eq_true, if_true]
  rfl

theorem completeWrite_of_bad (s : State) (n : Nat) {c : PageContents} (h : c ≠ s.staging.committed) : s.completeWrite n c =
    State.flag { s with pages := s.pages.setIfInBounds n c, pageStatus := s.pageStatus.setIfInBounds n .unusable,
                        catalogue := .opened } .storeFault := by
  have hbad : (c == s.staging.committed) = false := by simpa using h
  simp only [State.completeWrite, hbad]
  rfl

/-! ## The bytes of a page as committed -/

/-- The slots of a profile as committed, the unused ones 0 (R192, R218). -/
theorem profileBody_committedImage (i : ProfileImage) : profileBody (committedImage i) = headerBytes i.header
    ++ (List.range 48).flatMap (fun k =>
      let p := ((i.slots[k]?).filter (fun _ => k < i.header.pointCount)).getD { lateral := 0, radial := 0 }
      be 2 p.lateral ++ be 2 p.radial) := by
  have hslots : (committedImage i).slots.toList = (List.range 48).map (fun k =>
      if k < i.header.pointCount then (i.slots.toList[k]?).getD { lateral := 0, radial := 0 } else { lateral := 0, radial := 0 }) := rfl
  have hheader : (committedImage i).header = i.header := rfl
  rw [profileBody, hslots, hheader, List.flatMap_map]
  congr 2
  funext k
  by_cases hk : k < i.header.pointCount
  · simp only [hk, if_true, decide_true, Vector.getElem?_toList, pointBytes]
    cases i.slots[k]? <;> rfl
  · simp [hk, pointBytes]

end Sys2Proof.Machine
namespace Sys2Proof.Claims
open Sys2Proof.Machine

/-- Settles O44: the checks in order; no condition reads the catalogue or the staging page. -/
theorem catalogueAndStaging : Obligations.CatalogueAndStaging := by
  unfold Obligations.CatalogueAndStaging
  refine ⟨fun s hrun => ⟨?opening, ?closing⟩, fun s h v n hrun => ⟨?head, ?limits, ?erase⟩⟩
  case opening =>
    have htake := takeOpenCatalogue_eq s
    split_ifs at htake ⊢
    · exact portCommand_unchanged hrun htake
    · exact portCommand_unchanged hrun htake
    · exact portCommand_of_same_conditions hrun htake rfl rfl rfl rfl
  case closing =>
    have htake := takeCloseCatalogue_eq s
    split_ifs at htake ⊢
    · exact portCommand_unchanged hrun htake
    · exact portCommand_of_same_conditions hrun htake rfl rfl rfl rfl
  case head =>
    have htake : takeWriteProfileHead h s = _ := whenOpen_eq s _
    split_ifs at htake ⊢
    case neg => exact portCommand_of_same_conditions hrun htake rfl rfl rfl rfl
    all_goals exact portCommand_unchanged hrun htake
  case limits =>
    have htake : takeWriteLimits v s = _ := whenOpen_eq s _
    split_ifs at htake ⊢
    · exact portCommand_unchanged hrun htake
    · exact portCommand_unchanged hrun htake
    · exact portCommand_of_same_conditions hrun htake rfl rfl rfl rfl
  case erase =>
    have htake : takeEraseProfile n s = _ := whenOpen_eq s _
    split_ifs at htake ⊢
    case neg => exact portCommand_of_same_conditions hrun htake rfl rfl rfl rfl
    all_goals exact portCommand_unchanged hrun htake

/-- Settles O46: the catalogue, then the staging page, then the image's items. -/
theorem commitTable : Obligations.CommitTable := by
  unfold Obligations.CommitTable
  intro s hrun
  refine ⟨fun h => portCommand_unchanged hrun (whenOpen_of_closed h _), fun h => portCommand_unchanged hrun (whenOpen_of_committing h _),
    fun hopen h => portCommand_unchanged hrun (takeCommit_of_empty hopen h),
    fun n code hopen hpage h => portCommand_unchanged hrun (takeCommit_of_fault hopen hpage h),
    fun n hopen hpage h => portCommand_of_same_conditions hrun (takeCommit_of_no_fault hopen hpage h) rfl rfl rfl rfl,
    fun n i hn => ?_, fun v => ?_, fun n => rfl⟩
  · have hpage : n < 16 := by omega
    rw [judge_writtenProfile]
    simp [hpage, Staging.fault]
  · rw [judge_writtenLimits]
    simp [Staging.fault]

/-- Settles O47: the three ends of a write, and the bytes that a commit stores. -/
theorem storeWriteEnds : Obligations.StoreWriteEnds := by
  unfold Obligations.StoreWriteEnds
  refine ⟨fun s c h => execStoreCompletion_of_no_write (writeInFlight_of_not_committing h) c, fun s n c h hpage => ?write,
    fun s hrun h => ?noWrite, fun i image => ?profile, fun v => ⟨length_limitsBody v, rfl⟩, fun n => rfl⟩
  case write =>
    have hwrite := writeInFlight_of_committing h hpage
    refine ⟨fun hbad => ?_, fun hgood => ?_, fun hrun => ?_⟩
    · exact (execStoreCompletion_of_write hwrite c).trans (by rw [completeWrite_of_bad s n hbad])
    · refine (execStoreCompletion_of_write hwrite c).trans ?_
      rw [hgood]
      exact congrArg Host.Outcome.next (completeWrite_of_good s hpage)
    · have hreply : Machine.optional 1 (some n) = [1#8, BitVec.ofNat 8 n] := by simp [optional_eq, bit, be]
      have htake : takeStoreReset s = done (s.abortWrite n) [1#8, BitVec.ofNat 8 n] := by
        simp only [takeStoreReset, hwrite, hreply]
      exact portCommand_of_same_conditions hrun htake rfl rfl rfl rfl
  case noWrite =>
    have hreply : Machine.optional 1 none = [0#8, 0#8] := by decide
    exact portCommand_unchanged hrun (by simp only [takeStoreReset, writeInFlight_of_not_committing h, hreply]; rfl)
  case profile =>
    have hbody := profileBody_committedImage image
    refine ⟨?_, ?_⟩
    · exact (congrArg List.length hbody).symm.trans (length_profileBody (committedImage image))
    · exact congrArg (fun b => some (b ++ be 2 (crc b).toNat)) hbody

end Sys2Proof.Claims
end

section
/-! PROOFS. REPLAN and ACCEPT DEVIATION (O21, O22). -/
namespace Sys2Proof.Machine

/-- An accepted deviation leaves the record FINISHED exactly where its own need is its current diameter, within the new target and the
finish tolerance (R75). -/
theorem Record.deviated_finished_iff (v : LimitValues) (r : Record) : (r.deviated v).stage = .finished ↔
    ∃ c ∈ r.current, ∃ t ∈ r.deviationTarget, r.ownNeed = some c ∧ c ≤ t + v.finishTol := by
  unfold Record.deviated
  simp only
  change (if _ then Stage.finished else Stage.planned) = _ ↔ _
  cases r.current <;> cases r.deviationTarget <;> simp

/-- The record an accepted deviation leaves (R75). -/
theorem Record.deviated_eq (v : LimitValues) (r : Record)
    [Decidable (∃ c ∈ r.current, ∃ t ∈ r.deviationTarget, r.ownNeed = some c ∧ c ≤ t + v.finishTol)] :
    r.deviated v = { r with
      target := r.deviationTarget, waived := true, blocked := none
      stage := if ∃ c ∈ r.current, ∃ t ∈ r.deviationTarget, r.ownNeed = some c ∧ c ≤ t + v.finishTol then .finished else .planned } := by
  have hframe : r.deviated v = { r with
      target := r.deviationTarget, waived := true, blocked := none, stage := (r.deviated v).stage } := rfl
  have hplanned : (r.deviated v).stage ≠ .finished → (r.deviated v).stage = .planned := by
    unfold Record.deviated
    simp only
    split <;> simp
  rw [hframe]
  split_ifs with hwithin
  · rw [(Record.deviated_finished_iff v r).mpr hwithin]
  · rw [hplanned fun h => hwithin ((Record.deviated_finished_iff v r).mp h)]

/-- An accepted deviation written out: the record, the list where it is FINISHED, the floors (R75). -/
theorem acceptDeviation_eq (s : State) {n : Nat} (h1 : 1 ≤ n) (h64 : n ≤ 64) : s.acceptDeviation n =
    (if ((s.record n).deviated s.limits).stage = .finished then (s.setRecord n ((s.record n).deviated s.limits)).unlist n
      else s.setRecord n ((s.record n).deviated s.limits)).refloor [n] := by
  have hrecord : (s.setRecord n ((s.record n).deviated s.limits)).record n = (s.record n).deviated s.limits :=
    State.record_setRecord_same s n _ h1 h64
  simp only [State.acceptDeviation, State.modRecord_eq, hrecord, beq_iff_eq]

end Sys2Proof.Machine
namespace Sys2Proof.Claims
open Sys2Proof.Machine

/-- Settles O21: a ruling whose effect is the evaluation. -/
theorem replanTable : Obligations.ReplanTable := by
  unfold Obligations.ReplanTable
  intro s n hrun
  exact (portCommand_ruling hrun).trans (by simp only [not_rulable_iff])

/-- Settles O22: a ruling whose effect is the accepted deviation. -/
theorem acceptDeviationTable : Obligations.AcceptDeviationTable := by
  unfold Obligations.AcceptDeviationTable
  intro s n hrun r target finished r' u
  have hdeviated : r.deviated s.limits = r' := Record.deviated_eq s.limits r
  refine (portCommand_ruling (i := .ruleAcceptDeviation n) (admits := (· == .blocked)) (effect := fun s => s.acceptDeviation n) hrun).trans ?_
  by_cases hrange : n < 1 ∨ 64 < n
  · rw [if_pos hrange, if_pos hrange]
  · have h1 : 1 ≤ n := by omega
    have h64 : n ≤ 64 := by omega
    have hstage : r'.stage = .finished ↔ finished := by
      simp only [r']
      split <;> simp_all
    have hu : s.acceptDeviation n = u := by
      rw [acceptDeviation_eq s h1 h64, hdeviated]
      simp only [hstage, unlist_eq_unlisted]
      rfl
    have hsnapshot : u.snapshot n = snapshot n r' := by
      rw [← hu, State.snapshot, record_acceptDeviation, if_pos ⟨rfl, h1, h64⟩, hdeviated]
    simp only [if_neg hrange, beq_eq_false_iff_ne, hu, hsnapshot]
    rfl

end Sys2Proof.Claims
end

section
/-! PROOFS. HALT PASS and RESUME PASS, the pass watch, and the edges of MOVE REQUEST (O36, O37, O38). -/
namespace Sys2Proof.Machine

/-! ## HALT PASS and RESUME PASS -/

section
variable {s : State} {st : StationId} {n : Nat}

theorem setHold_of_held {h : Hold} (hheld : (s.station st).held = some n) : s.setHold st h = s.setRecord n { s.record n with hold := h } := by
  simp only [State.setHold, hheld]
  rfl

theorem haltPass_eq (hheld : (s.station st).held = some n) : s.haltPass st =
    ((s.setStation st { s.station st with suspended := true }).setRecord n { s.record n with hold := .suspended }).setLink (stationLink st)
      ((s.link (stationLink st)).order .halt n) := by
  have hstation : ((s.modStation st (fun c => { c with suspended := true })).station st).held = some n := by
    rw [State.modStation_eq, State.station_setStation_same]
    exact hheld
  rw [State.haltPass, setHold_of_held hstation, State.sendOrder, State.modLink_eq, State.heldOrdinal, hheld, State.modStation_eq]
  simp only [State.record_setStation, State.link_setRecord, State.link_setStation, Option.getD_some]

theorem resumePass_eq (hheld : (s.station st).held = some n) : s.resumePass st =
    ((s.setStation st { s.station st with suspended := false }).setRecord n { s.record n with hold := .cutting }).setLink (stationLink st)
      ((s.link (stationLink st)).order .resume n) := by
  have hstation : ((s.modStation st (fun c => { c with suspended := false })).station st).held = some n := by
    rw [State.modStation_eq, State.station_setStation_same]
    exact hheld
  rw [State.resumePass, setHold_of_held hstation, State.sendOrder, State.modLink_eq, State.heldOrdinal, hheld, State.modStation_eq]
  simp only [State.record_setStation, State.link_setRecord, State.link_setStation, Option.getD_some]

/-- A record that is held stays held where its hold is written, so no condition starts (R208). -/
theorem condition_hold_written {h : Hold} (hh : h ≠ .free) (c : StationContext) (l : LinkId) (d : LinkContext) {k : Source}
    (hk : (((s.setStation st c).setRecord n { s.record n with hold := h }).setLink l d).condition k = true) : s.condition k = true := by
  have hrecord : ∀ m, (((s.setStation st c).setRecord n { s.record n with hold := h }).setLink l d).record m =
      if m = n ∧ 1 ≤ n ∧ n ≤ 64 then { s.record n with hold := h } else s.record m := fun m => by
    rw [State.record_setLink, State.record_setRecord, State.record_setStation]
  refine condition_mono (fun m => ?_) (fun m hfree => ?_) (by simp) (fun hmove => by simpa using hmove) (by simp) hk
  · rw [hrecord]
    split_ifs with hm
    · rw [hm.1]
    · rfl
  · rw [hrecord] at hfree
    split_ifs at hfree
    · exact absurd hfree hh
    · exact hfree

theorem takeHaltPass_of_none {code : Nat} (h : stationOf code = none) (s : State) : takeHaltPass code s = refuse s .outOfRange := by
  simp only [takeHaltPass, h]

theorem takeResumePass_of_none {code : Nat} (h : stationOf code = none) (s : State) : takeResumePass code s = refuse s .outOfRange := by
  simp only [takeResumePass, h]

theorem takeHaltPass_eq {code : Nat} (h : stationOf code = some st) (s : State) : takeHaltPass code s =
    if (s.station st).enabled = false then refuse s .disabled
    else if (s.station st).passInFlight = false ∨ (s.station st).suspended = true then refuse s .noPass
    else done (s.haltPass st) [] := by
  simp only [takeHaltPass, h, Bool.not_eq_true', Bool.or_eq_true]

theorem takeResumePass_eq {code : Nat} (h : stationOf code = some st) (s : State) : takeResumePass code s =
    if (s.station st).enabled = false then refuse s .disabled
    else if (s.station st).passInFlight = false ∨ (s.station st).suspended = false then refuse s .noPass
    else done (s.resumePass st) [] := by
  simp only [takeResumePass, h, Bool.not_eq_true', Bool.and_eq_false_iff]

end

/-! ## The pass watch -/

theorem watchModeOf_eq (v : LimitValues) : watchModeOf v = if v.watchMode = 2 then .time else .revolution := by
  simp only [watchModeOf, beq_iff_eq]

/-- An expiry written out (R133): the pass ends, the record is CLAMPED and doubtful, PASS OVERRUN is flagged, ABANDON is sent. -/
theorem expire_eq {s : State} {st : StationId} {n : Nat} (hheld : (s.station st).held = some n) : s.expire st =
    (((s.setStation st { s.station st with passInFlight := false, suspended := false, grant := none, watch := 0 }).setRecord n
      { s.record n with hold := .clamped, doubtful := true, verified := false }).flag .passOverrun).setLink (stationLink st)
        ((s.link (stationLink st)).order .abandon n) := by
  have hrecord : s.abandonRecord st = s.setRecord n { s.record n with hold := .clamped, doubtful := true, verified := false } := by
    simp only [State.abandonRecord, hheld]
    rfl
  rw [State.expire, hrecord, State.modStation_eq, State.setRecord_setStation, State.sendOrder, State.modLink_eq, State.heldOrdinal, hheld]
  simp only [State.link_flag, State.link_setRecord, State.link_setStation, State.station_setRecord, Option.getD_some]
  rfl

theorem execPassWatchExpiry_of_last {s : State} {st : StationId} (hpass : (s.station st).passInFlight = true)
    (hgoing : (s.station st).suspended = false) (hlast : (s.station st).watch = 1) : execPassWatchExpiry st s = .next (s.expire st) := by
  have hcounting : (s.station st).counting = true := by simp [StationContext.counting, hpass, hgoing, hlast]
  simp [execPassWatchExpiry, hcounting, hlast]

theorem execPassWatchExpiry_of_not_last {s : State} {st : StationId}
    (h : (s.station st).passInFlight = false ∨ (s.station st).suspended = true ∨ (s.station st).watch ≠ 1) :
    execPassWatchExpiry st s = .next s := by
  have hno : ((s.station st).counting && (s.station st).watch == 1) = false := by
    rcases h with h | h | h <;> simp [StationContext.counting, h]
  simp [execPassWatchExpiry, hno]

/-! ## The edges of MOVE REQUEST -/

theorem execMoveRequestRise_of_high {s : State} (h : s.moveRequest = true) : execMoveRequestRise s = .next s := by
  simp only [execMoveRequestRise, h, if_true]

theorem execMoveRequestFall_of_low {s : State} (h : s.moveRequest = false) : execMoveRequestFall s = .next s := by
  simp only [execMoveRequestFall, h, Bool.not_false, if_true]

theorem execMoveRequestRise_of_still {s : State} (hrun : s.phase = .running) (hstill : s.moveState = .still) (hlow : s.moveRequest = false) :
    execMoveRequestRise s = .next (State.flagStarts s (State.takeRise { s with moveRequest := true })) := by
  simp [execMoveRequestRise, State.takesEdges, hrun, hstill, hlow]

theorem execMoveRequestFall_of_running {s : State} (hrun : s.phase = .running) (hhigh : s.moveRequest = true) :
    execMoveRequestFall s = .next { s with moveRequest := false, moveState := .still } := by
  simp [execMoveRequestFall, State.takesEdges, hrun, hhigh]

/-- Before work an edge is remembered as the level alone (R158, log 25). -/
theorem execMoveRequestRise_before_work {s : State} (h : s.phase ≠ .running) :
    execMoveRequestRise s = .next { s with moveRequest := true } := by
  by_cases hhigh : s.moveRequest = true
  · rw [execMoveRequestRise_of_high hhigh, ← hhigh]
  · simp [execMoveRequestRise, State.takesEdges, h, hhigh]

theorem execMoveRequestFall_before_work {s : State} (h : s.phase ≠ .running) :
    execMoveRequestFall s = .next { s with moveRequest := false } := by
  by_cases hlow : s.moveRequest = false
  · rw [execMoveRequestFall_of_low hlow, ← hlow]
  · simp [execMoveRequestFall, State.takesEdges, h, hlow]

/-- A move that becomes PENDING starts MOVE WAITING and no other condition (R152, R208). -/
theorem flagStarts_pending {s : State} (h : s.moveState = .still) (high : Bool) :
    State.flagStarts s { s with moveRequest := high, moveState := .pending }
      = State.flag { s with moveRequest := high, moveState := .pending } .moveWaiting := by
  have hother : ∀ {u : State} {k : Source}, u.condition k = s.condition k → State.flagIfStarts s u k = u := fun hk => by
    simp [State.flagIfStarts, hk]
  have hstarts : ∀ {u : State}, u.moveState = .pending → State.flagIfStarts s u .moveWaiting = u.flag .moveWaiting := fun hu => by
    simp [State.flagIfStarts, State.condition, hu, h]
  generalize hu : ({ s with moveRequest := high, moveState := .pending } : State) = u
  have hblocked : u.condition .blocked = s.condition .blocked := by rw [← hu]; rfl
  have hreopened : u.condition .reopened = s.condition .reopened := by rw [← hu]; rfl
  have hsettled : u.condition .visitSettled = s.condition .visitSettled := by rw [← hu]; rfl
  have hpending : u.moveState = .pending := by rw [← hu]
  simp only [State.flagStarts, List.foldl_cons, List.foldl_nil]
  rw [hother hblocked, hother hreopened, hstarts hpending, hother ((State.condition_flag u _ _).trans hsettled)]

/-- A move that becomes GRANTED starts no condition (R152, R208). -/
theorem condition_grantMove (s : State) {k : Source} (h : s.grantMove.condition k = true) : s.condition k = true := by
  cases k
  case moveWaiting => cases h
  all_goals exact h

end Sys2Proof.Machine
namespace Sys2Proof.Claims
open Sys2Proof.Machine

theorem countDown_eq_countedDown (s : State) (st : StationId) : s.countDown st = countedDown s st := by
  have hcounting : (s.station st).counting = true ↔
      (s.station st).passInFlight = true ∧ (s.station st).suspended = false ∧ (s.station st).watch ≠ 0 := by
    rw [counting_eq, decide_eq_true_eq]
  unfold countedDown
  rcases s.countDown_cases st with ⟨hc, h⟩ | ⟨hc, hw, h⟩ | ⟨hc, hw, h⟩ <;> rw [h]
  · rw [if_neg fun hgood => absurd (hc.symm.trans (hcounting.mpr hgood)) (by decide)]
  · rw [if_pos (hcounting.mp hc), if_pos hw]
  · rw [if_pos (hcounting.mp hc), if_neg hw]

/-- Settles O36: the checks in order; the record that is halted or resumed is held before and after. -/
theorem haltAndResumePass : Obligations.HaltAndResumePass := by
  unfold Obligations.HaltAndResumePass
  intro s code hrun
  refine ⟨fun h => ⟨portCommand_unchanged hrun (takeHaltPass_of_none h s), portCommand_unchanged hrun (takeResumePass_of_none h s)⟩,
    fun st hst => ⟨fun hoff => ?disabled, fun hon hno => ?haltNoPass, fun hon hno => ?resumeNoPass, fun n hheld hon hpass => ?effects⟩⟩
  case disabled =>
    exact ⟨portCommand_unchanged hrun ((takeHaltPass_eq hst s).trans (if_pos hoff)),
      portCommand_unchanged hrun ((takeResumePass_eq hst s).trans (if_pos hoff))⟩
  case haltNoPass =>
    have htake := takeHaltPass_eq hst s
    rw [if_neg (by rw [hon]; decide), if_pos hno] at htake
    exact portCommand_unchanged hrun htake
  case resumeNoPass =>
    have htake := takeResumePass_eq hst s
    rw [if_neg (by rw [hon]; decide), if_pos hno] at htake
    exact portCommand_unchanged hrun htake
  case effects =>
    have hon' : ¬ (s.station st).enabled = false := by rw [hon]; decide
    refine ⟨fun hgoing => ?_, fun hhalted => ?_⟩
    · have htake := takeHaltPass_eq hst s
      rw [if_neg hon', if_neg (by rw [hpass, hgoing]; decide), haltPass_eq hheld] at htake
      exact portCommand_of_no_start hrun htake fun k => condition_hold_written (by decide) _ _ _
    · have htake := takeResumePass_eq hst s
      rw [if_neg hon', if_neg (by rw [hpass, hhalted]; decide), resumePass_eq hheld] at htake
      exact portCommand_of_no_start hrun htake fun k => condition_hold_written (by decide) _ _ _

/-- Settles O37: the watch mode decides what counts; the expiry is that of the last count. -/
theorem watchCountsDownAndExpires : Obligations.WatchCountsDownAndExpires := by
  unfold Obligations.WatchCountsDownAndExpires
  refine ⟨fun s st => ?pulse, fun s => ?tick, fun s st n hheld hpass hgoing hlast => ?expiry,
    fun s st h => execPassWatchExpiry_of_not_last h⟩
  case pulse =>
    change execRevPulse st s = _
    by_cases hmode : s.limits.watchMode = 2
    · simp only [execRevPulse, watchModeOf_eq, if_pos hmode]
    · simp only [execRevPulse, watchModeOf_eq, if_neg hmode, countDown_eq_countedDown]
  case tick =>
    change execTimebaseTick s = _
    by_cases hmode : s.limits.watchMode = 2
    · simp only [execTimebaseTick, watchModeOf_eq, if_pos hmode, countDown_eq_countedDown]
    · simp only [execTimebaseTick, watchModeOf_eq, if_neg hmode]
  case expiry =>
    have hexpire := expire_eq hheld
    exact ⟨(execPassWatchExpiry_of_last hpass hgoing hlast).trans (by rw [hexpire]), hexpire⟩

/-- Settles O38: by the phase and the level; a rise in STILL grants the move or leaves it waiting. -/
theorem moveRequestEdges : Obligations.MoveRequestEdges := by
  unfold Obligations.MoveRequestEdges
  refine ⟨fun s hrun hstill hlow => ?rise, fun s hrun hhigh => execMoveRequestFall_of_running hrun hhigh,
    fun s h => ⟨execMoveRequestRise_before_work h, execMoveRequestFall_before_work h⟩,
    fun s => ⟨execMoveRequestRise_of_high, execMoveRequestFall_of_low, by simp [State.moveGrant]⟩⟩
  refine (execMoveRequestRise_of_still hrun hstill hlow).trans (congrArg Host.Outcome.next ?_)
  have hheld : State.anyHeld { s with moveRequest := true } = s.anyHeld := rfl
  unfold State.takeRise
  rw [hheld]
  by_cases hfree : s.stationA.held = none ∧ s.stationB.held = none
  · have hnone : s.anyHeld = false := by simp [State.anyHeld, hfree]
    rw [if_pos hfree, hnone]
    exact State.flagStarts_of_no_start s _ fun k hk => condition_grantMove { s with moveRequest := true } hk
  · have hsome : s.anyHeld = true := by
      rw [State.anyHeld, Bool.or_eq_true, Option.isSome_iff_ne_none, Option.isSome_iff_ne_none]
      tauto
    rw [if_neg hfree, hsome]
    exact flagStarts_pending hstill true

end Sys2Proof.Claims
end

section
/-! PROOFS. The outgoing list, the oldest untaken frame, and ALIGNED (O39, O41, O42). -/
namespace Sys2Proof.Machine

/-! ## Transmission -/

theorem startTransmission_of_empty {c : LinkContext} (h : c.outgoing = []) : c.startTransmission = c := by
  simp [LinkContext.startTransmission, h]

theorem startTransmission_of_waiting {c : LinkContext} (h : c.outgoing ≠ []) : c.startTransmission = { c with transmitting := true } := by
  simp [LinkContext.startTransmission, h]

/-- The answered frame that leaves the inbox is the oldest one (R174). -/
theorem removeAnswered_eq_eraseP (fs : List InboxFrame) : removeAnswered fs = fs.eraseP (fun f => f.answered) := by
  induction fs with
  | nil => rfl
  | cons f rest ih => cases h : f.answered <;> simp [removeAnswered, h, ih]

theorem endTransmission_of_frame {c : LinkContext} {g : OutFrame} {rest : List OutFrame} (hsending : c.transmitting = true)
    (hout : c.outgoing = g :: rest) : c.endTransmission =
      { c with outgoing := rest, transmitting := false
               inbox := if g.origin = .inboxAnswer then c.inbox.eraseP (fun f => f.answered) else c.inbox } := by
  simp only [LinkContext.endTransmission, hsending, hout, removeAnswered_eq_eraseP, beq_iff_eq]

theorem endTransmission_of_idle {c : LinkContext} (h : c.transmitting = false) : c.endTransmission = c := by
  simp only [LinkContext.endTransmission, h]

/-! ## Orders -/

/-- Where fewer than four orders wait, one more is appended (R178). -/
theorem order_of_room {c : LinkContext} (h : c.waiting .order < 4) (o : Order) (n : Nat) : c.order o n =
    { c with outgoing := c.outgoing ++ [{ origin := .order, kind := o.code, tag := 0#4, payload := be 1 n }] } := by
  simp only [LinkContext.order, Config.orderDepth, if_pos h]
  rfl

/-- Where four orders wait, the oldest whose transmission has not begun is lost: the frame in transmission stays in front (R178). -/
theorem dropOrder_split {c : LinkContext} (h : 4 ≤ c.waiting .order) : ∃ front lost back, c.outgoing = front ++ lost :: back
    ∧ lost.origin = .order ∧ (c.transmitting = true → front ≠ [])
    ∧ (∀ g ∈ if c.transmitting then front.tail else front, g.origin ≠ .order)
    ∧ c.dropOrder = { c with outgoing := front ++ back } := by
  unfold LinkContext.waiting at h
  unfold LinkContext.dropOrder
  cases hsending : c.transmitting with
  | false =>
    obtain ⟨front, lost, back, hsplit, hlost, hfront, hdrop⟩ := dropFirstOrder_split c.outgoing (by omega)
    refine ⟨front, lost, back, hsplit, hlost, nofun, by simpa using hfront, ?_⟩
    simp only [hdrop]
  | true =>
    cases hout : c.outgoing with
    | nil => simp [hout] at h
    | cons first rest =>
      have hrest : (rest.filter (fun f => f.origin == .order)).length ≠ 0 := by
        have hle : ((first :: rest).filter (fun f => f.origin == .order)).length
            ≤ 1 + (rest.filter (fun f => f.origin == .order)).length := by
          rw [List.filter_cons]
          split
          · rw [List.length_cons]; omega
          · omega
        rw [hout] at h
        omega
      obtain ⟨front, lost, back, hsplit, hlost, hfront, hdrop⟩ := dropFirstOrder_split rest hrest
      refine ⟨first :: front, lost, back, by rw [hsplit]; rfl, hlost, fun _ => by simp, by simpa using hfront, ?_⟩
      simp only [hdrop]
      rfl

theorem order_of_full {c : LinkContext} (h : 4 ≤ c.waiting .order) (o : Order) (n : Nat) : c.order o n =
    { c.dropOrder with outgoing := c.dropOrder.outgoing ++ [{ origin := .order, kind := o.code, tag := 0#4, payload := be 1 n }] } := by
  simp only [LinkContext.order, Config.orderDepth, if_neg (Nat.not_lt.mpr h)]
  rfl

/-! ## Taking from an inbox -/

/-- The oldest untaken frame of a link is answered under its kind and tag, the other frames stand (R173, R175). -/
theorem answerInbox_split {s : State} {l : LinkId} {k : RequestKind} {f : InboxFrame} (h : s.nextRequest l k = some f) (r : Reply) :
    ∃ older newer, (s.link l).inbox = older ++ f :: newer ∧ (∀ g ∈ older, g.answered = true) ∧ f.answered = false ∧ f.kind = k
      ∧ (s.link l).state = .up
      ∧ s.answerInbox l f r = s.setLink l { s.link l with
          inbox := older ++ { f with answered := true } :: newer
          outgoing := (s.link l).outgoing ++
            [{ origin := .inboxAnswer, kind := k.code, tag := f.tag, payload := be 1 r.reason.code ++ r.body }] } := by
  obtain ⟨hup, holdest, rfl⟩ := nextRequest_some h
  obtain ⟨older, newer, hsplit, holder, hf, hmark⟩ := markOldest_split holdest
  refine ⟨older, newer, hsplit, holder, hf, rfl, hup, ?_⟩
  rw [State.answerInbox, State.modLink_eq, LinkContext.answerOldest_eq, hmark]
  rfl

/-! ## ALIGNED -/

/-- Two fields name the same ordinal exactly where the list repeats one (R160). -/
theorem alignmentInRange_iff (s : State) (a : Alignment) (hpos : ∀ n ∈ a.present, 1 ≤ n) :
    s.alignmentInRange a = false ↔ (∃ n ∈ a.present, s.recordCount < n) ∨ ¬ a.present.Nodup := by
  rw [Bool.eq_false_iff, Ne, State.alignmentInRange, Bool.and_eq_true, not_and_or, Bool.not_eq_true', hasRepeat_eq_false_iff]
  refine or_congr_left ?_
  simp only [List.all_eq_true, Bool.and_eq_true, decide_eq_true_eq, not_forall, not_and_or, not_le]
  constructor
  · rintro ⟨n, hn, h | h⟩
    · exact absurd (hpos n hn) (by omega)
    · exact ⟨n, hn, h⟩
  · rintro ⟨n, hn, h⟩
    exact ⟨n, hn, .inr h⟩

theorem ordinalOrAbsent_eq (n : Nat) : ordinalOrAbsent n = if n = 0 then none else some n := by
  simp [ordinalOrAbsent]

theorem one_le_of_ordinalOrAbsent {n m : Nat} (h : m ∈ (ordinalOrAbsent n).toList) : 1 ≤ m := by
  rw [ordinalOrAbsent_eq] at h
  split_ifs at h with hn
  · cases h
  · rw [List.mem_singleton.mp h]
    omega

/-- A reported ordinal is never 0, which stands for an absent field (R160, R214). -/
theorem one_le_of_mem_reported {s : State} {p : List Byte} {n : Nat} (h : n ∈ (s.reportedAlignment p).present) : 1 ≤ n := by
  simp only [State.reportedAlignment, Alignment.present, List.mem_append] at h
  rcases h with (h | h) | h
  · exact one_le_of_ordinalOrAbsent h
  · exact one_le_of_ordinalOrAbsent h
  · split_ifs at h
    · cases h
    · exact one_le_of_ordinalOrAbsent h

theorem anyHeld_iff_held (s : State) : s.anyHeld = true ↔ s.stationA.held ≠ none ∨ s.stationB.held ≠ none := by
  simp only [State.anyHeld, Bool.or_eq_true, Option.isSome_iff_ne_none]

theorem moving_iff (s : State) : s.moving = true ↔ s.moveState ≠ .still := by
  simp [State.moving]

theorem takeAligned_eq (s : State) (p : List Byte) : takeAligned p s =
    if s.moveState ≠ .still then refuseWith s .moving (be 1 s.moveState.code)
    else if s.isLoaded = false then refuse s .notLoaded
    else if s.stationA.held ≠ none ∨ s.stationB.held ≠ none then refuseWith s .holdsPresent s.heldBytes
    else if (∃ n ∈ (s.reportedAlignment p).present, s.recordCount < n) ∨ ¬ (s.reportedAlignment p).present.Nodup then refuse s .outOfRange
    else done { s with alignment := s.reportedAlignment p, gaugeCounts := { accepted := 0, refused := 0 } }
      (alignmentBytes (s.reportedAlignment p)) := by
  have hrange := alignmentInRange_iff s (s.reportedAlignment p) fun _ => one_le_of_mem_reported
  simp only [takeAligned, moving_iff, anyHeld_iff_held, Bool.not_eq_true', hrange]

/-- A request that starts no condition ends with its own writes and its answer (R173, R208). -/
theorem serve_of_no_start {l : LinkId} {k : RequestKind} {owner : List Byte → State → Taken} {s t : State} {f : InboxFrame} {r : Reply}
    (h : s.nextRequest l k = some f) (ho : owner f.payload s = (t, r)) (hstart : ∀ k, t.condition k = true → s.condition k = true) :
    serve l k owner s = .next (t.answerInbox l f r) := by
  rw [serve_some h, ho, State.flagStarts_of_no_start s t hstart]

end Sys2Proof.Machine
namespace Sys2Proof.Claims
open Sys2Proof.Machine

/-- Settles O39: the checks in order; no condition reads the alignment table. -/
theorem alignedTable : Obligations.AlignedTable := by
  unfold Obligations.AlignedTable
  intro s f hnext ord a present
  have hreported : s.reportedAlignment f.payload = a := by
    simp only [State.reportedAlignment, ordinalOrAbsent_eq, beq_iff_eq]
    rfl
  have htake := takeAligned_eq s f.payload
  rw [hreported] at htake
  have hpresent : a.present = present := rfl
  rw [hpresent] at htake
  split_ifs at htake ⊢
  · exact serve_unchanged hnext htake
  · exact serve_unchanged hnext htake
  · exact serve_unchanged hnext htake
  · exact serve_unchanged hnext htake
  · exact serve_of_no_start hnext htake fun k hk => (State.condition_congr rfl rfl rfl rfl k).symm.trans hk

/-- Settles O41: the start and the end of a transmission by what the list holds, an order by how many wait. -/
theorem outgoingListIsSentInOrder : Obligations.OutgoingListIsSentInOrder := by
  unfold Obligations.OutgoingListIsSentInOrder
  refine ⟨fun s l => congrArg Host.Outcome.next ?start, fun s l g rest hsending hout => congrArg Host.Outcome.next ?sent,
    fun s l hidle => congrArg Host.Outcome.next ?noEnd, fun c o n => ⟨fun h => order_of_room h o n, fun h => ?full⟩, fun g => rfl⟩
  case start =>
    rw [State.modLink_eq]
    split_ifs with hout
    · rw [startTransmission_of_empty hout, State.setLink_link]
    · rw [startTransmission_of_waiting hout]
  case sent => rw [State.modLink_eq, endTransmission_of_frame hsending hout]
  case noEnd => rw [State.modLink_eq, endTransmission_of_idle hidle, State.setLink_link]
  case full =>
    obtain ⟨front, lost, back, hsplit, hlost, hfirst, hfront, hdrop⟩ := dropOrder_split h
    exact ⟨front, lost, back, hsplit, hlost, hfirst, hfront, (order_of_full h o n).trans (by rw [hdrop])⟩

/-- Settles O42: the inbox split at its oldest untaken frame, and HELLO, which changes nothing but for its answer. -/
theorem oldestUntakenFrameIsAnswered : Obligations.OldestUntakenFrameIsAnswered := by
  unfold Obligations.OldestUntakenFrameIsAnswered
  refine ⟨fun s l k f r h => answerInbox_split h r, fun s l f h => ?_, fun s l h => serve_none h⟩
  split_ifs with hrole
  · exact serve_unchanged h (by simp only [takeHello, roleMatches, hrole, beq_self_eq_true, if_true]; rfl)
  · exact serve_unchanged h (by simp only [takeHello, roleMatches, beq_iff_eq, if_neg hrole]; rfl)

end Sys2Proof.Claims
end

section
/-! PROOFS. CLAIM, GRANT PASS, START PASS and the contour (O29, O30, O31, O35). -/
namespace Sys2Proof.Machine

/-! ## A station's request -/

section
variable {st : StationId} {k : RequestKind} {owner : StationId → List Byte → State → Taken} {s t : State} {f : InboxFrame} {r : Reply}
  (h : s.nextRequest (stationLink st) k = some f)
include h

/-- A station's request whose owner changes nothing: the cursor is closed and the answer is written (R4, R118). -/
theorem serveStation_unchanged
    (ho : owner st f.payload (s.setStation st { s.station st with cursor := none }) = (s.setStation st { s.station st with cursor := none }, r)) :
    serveStation st k owner s = .next ((s.setStation st { s.station st with cursor := none }).answerInbox (stationLink st) f r) :=
  serveStation_refused h ho

/-- A station's request with its owner's writes, the flags of the conditions that start, and its answer (R118, R173, R208). -/
theorem serveStation_taken (ho : owner st f.payload (s.setStation st { s.station st with cursor := none }) = (t, r)) :
    serveStation st k owner s = .next ((State.flagStarts s t).answerInbox (stationLink st) f r) := by
  rw [serveStation_some h, State.closeCursor_eq, ho]

/-- A station's request that starts no condition (R118, R173, R208). -/
theorem serveStation_of_no_start (ho : owner st f.payload (s.setStation st { s.station st with cursor := none }) = (t, r))
    (hstart : ∀ k, t.condition k = true → s.condition k = true) :
    serveStation st k owner s = .next (t.answerInbox (stationLink st) f r) := by
  rw [serveStation_taken h ho, State.flagStarts_of_no_start s t hstart]

end

theorem condition_setStation (s : State) (st : StationId) (c : StationContext) (k : Source) :
    (s.setStation st c).condition k = s.condition k :=
  State.condition_congr (by simp) (by simp) (by simp) (by simp) k

/-! ## The owners' checks in order -/

section
variable (s : State) (st : StationId) (p : List Byte)

theorem takeClaim_eq : takeClaim st p s =
    if s.moveState ≠ .still then refuse s .moving
    else if s.isLoaded = false then refuse s .notLoaded
    else if s.alignedAt st ≠ some (field p 0 1) then refuseWith s .notAligned (be 1 ((s.alignedAt st).getD 0))
    else if (s.station st).held ≠ none then refuseWith s .alreadyHolding (be 1 ((s.station st).held.getD 0))
    else if (s.record (field p 0 1)).stage ≠ .planned then refuseWith s .wrongStage (be 1 (s.record (field p 0 1)).stage.code)
    else if s.exempt (field p 0 1) = true then refuse s .exempt
    else done (s.claim st (field p 0 1)) (s.claimAnswer (field p 0 1)) := by
  simp only [takeClaim, moving_iff, Bool.not_eq_true', bne_iff_ne, ordinalByte]
  cases hheld : (s.station st).held <;> simp

theorem takeGrantPass_of_idle (h : (s.station st).held = none) : takeGrantPass st p s = refuse s .notHolding := by
  simp only [takeGrantPass, h]

theorem belowTarget_iff (r : Record) (v : LimitValues) (depth : Nat) : r.belowTarget v depth = true ↔
    ∃ d ∈ r.current, ∃ t ∈ r.target, (d : Int) - 2 * depth < (t : Int) - v.undercutTol := by
  unfold Record.belowTarget
  cases r.current <;> cases r.target <;> simp
  omega

theorem takeGrantPass_of_held {n : Nat} (h : (s.station st).held = some n) : takeGrantPass st p s =
    if (s.record n).stage ≠ .planned then refuse s .wrongStage
    else if (s.record n).doubtful = true then refuse s .doubtful
    else if (s.station st).passInFlight = true then refuse s .passInFlight
    else if s.moveState ≠ .still then refuse s .moving
    else if s.exempt n = true then refuse s .exempt
    else if (s.record n).passesDone = s.limits.maxPasses then refuse s .passLimit
    else if field p 0 2 < 1 ∨ s.limits.maxPassDepth < field p 0 2 then refuse s .depthTooLarge
    else if ∃ d ∈ (s.record n).current, ∃ t ∈ (s.record n).target,
        (d : Int) - 2 * (field p 0 2 : Nat) < (t : Int) - s.limits.undercutTol then refuse s .belowTarget
    else done (s.setStation st { s.station st with grant := some (field p 0 2) })
      (be 2 (field p 0 2) ++ be 3 ((s.record n).current.getD 0 - 2 * field p 0 2)) := by
  simp only [takeGrantPass, h, bne_iff_ne, moving_iff, beq_iff_eq, Bool.or_eq_true, decide_eq_true_eq, belowTarget_iff, State.modStation_eq]

theorem takeStartPass_of_idle (h : (s.station st).held = none) : takeStartPass st p s = refuse s .notHolding := by
  simp only [takeStartPass, h]

theorem takeStartPass_of_no_grant {n : Nat} (h : (s.station st).held = some n) (hgrant : (s.station st).grant = none) :
    takeStartPass st p s = refuse s .noGrant := by
  simp only [takeStartPass, h, hgrant]

theorem takeStartPass_of_grant {n depth : Nat} (h : (s.station st).held = some n) (hgrant : (s.station st).grant = some depth) :
    takeStartPass st p s =
      if s.moveState ≠ .still then refuse s .moving
      else done ((s.setStation st { s.station st with grant := none, passInFlight := true, watch := s.limits.watchReload }).setRecord n
        { s.record n with hold := .cutting }) (be 2 depth ++ be 2 s.limits.watchReload) := by
  simp only [takeStartPass, h, hgrant, moving_iff, State.startPass, State.modStation_eq, State.modRecord_eq, State.record_setStation]

theorem takeReadContour_of_idle (h : (s.station st).held = none) : takeReadContour st p s = refuse s .notHolding := by
  simp only [takeReadContour, h]

theorem takeReadContour_of_held {n : Nat} {i : ProfileImage} (h : (s.station st).held = some n)
    (hprofile : s.validProfile (s.record n).profile = some i) : takeReadContour st p s =
      if i.header.pointCount ≤ field p 0 1 then refuse s .outOfRange
      else done (s.setStation st { s.station st with cursor := cursorAfter (s.record n).profile i (field p 0 1) })
        (contourAnswer (s.record n).profile i (field p 0 1)) := by
  simp only [takeReadContour, h, hprofile, State.modStation_eq]

theorem takeContourNext_of_closed (h : (s.station st).cursor = none) : takeContourNext st p s = refuse s .noCursor := by
  simp only [takeContourNext, h]

theorem takeContourNext_of_cursor {k : Cursor} {i : ProfileImage} (h : (s.station st).cursor = some k)
    (hprofile : s.validProfile k.profile = some i) : takeContourNext st p s =
      done (s.setStation st { s.station st with cursor := cursorAfter k.profile i k.next }) (contourAnswer k.profile i k.next) := by
  simp only [takeContourNext, h, hprofile, State.modStation_eq]

end

/-- A claim with the cursor closed first, written out (R118, R120). -/
theorem claim_closed_eq (s : State) (st : StationId) (n : Nat) : (s.setStation st { s.station st with cursor := none }).claim st n =
    ((s.setStation st { s.station st with cursor := none, held := some n }).setRecord n
      { s.record n with hold := .clamped, holder := some st, verified := false }).unlist n := by
  simp only [State.claim, State.modStation_eq, State.modRecord_eq, State.setStation_setStation, State.station_setStation_same,
    State.record_setStation]

/-- A record claimed is no longer FREE and leaves the list; no condition starts (R120, R208). -/
theorem condition_claimed {s : State} {st : StationId} {n : Nat} (c : StationContext) {r : Record} (hstage : r.stage = (s.record n).stage)
    (hhold : r.hold ≠ .free) {k : Source} (h : ((((s.setStation st c).setRecord n r).unlist n).condition k) = true) :
    s.condition k = true := by
  have hbefore : (((s.setStation st c).setRecord n r)).condition k = true → s.condition k = true := fun h => by
    refine condition_mono (fun m => ?_) (fun m hfree => ?_) (by simp) (fun hmove => by simpa using hmove) (by simp) h
    · rw [State.record_setRecord, State.record_setStation]
      split_ifs with hm
      · rw [hm.1, hstage]
      · rfl
    · rw [State.record_setRecord, State.record_setStation] at hfree
      split_ifs at hfree
      · exact absurd hfree hhold
      · exact hfree
  cases k
  case reopened =>
    refine hbefore ?_
    simp only [State.condition, State.unlist, Bool.not_eq_true', List.isEmpty_eq_false_iff] at h ⊢
    intro hnil
    exact h (by rw [hnil]; rfl)
  all_goals exact hbefore h

/-- A pass that starts leaves its record held; no condition starts (R124, R208). -/
theorem condition_written_hold {s : State} {st : StationId} {n : Nat} {h : Hold} (hh : h ≠ .free) (c : StationContext) {k : Source}
    (hk : ((s.setStation st c).setRecord n { s.record n with hold := h }).condition k = true) : s.condition k = true := by
  refine condition_hold_written hh c .gauge s.linkGauge (st := st) (n := n) ?_
  rwa [State.condition_congr (s := (s.setStation st c).setRecord n { s.record n with hold := h }) (by simp) (by simp) (by simp) (by simp)]

end Sys2Proof.Machine
namespace Sys2Proof.Claims
open Sys2Proof.Machine

/-- Settles O29: the checks in order; a claim starts no condition. -/
theorem claimTable : Obligations.ClaimTable := by
  unfold Obligations.ClaimTable
  intro s st f h n c l r u
  have htake := takeClaim_eq u st f.payload
  simp only [u, State.moveState_setStation, State.isLoaded_setStation, State.alignedAt_setStation, State.station_setStation_same,
    State.record_setStation, State.exempt_setStation] at htake
  split_ifs at htake ⊢
  case neg =>
    have hanswer : (s.setStation st { s.station st with cursor := none }).claimAnswer n =
        be 1 n ++ be 3 (r.target.getD 0) ++ be 3 (r.current.getD 0) ++ be 1 r.passesDone ++ bit r.doubtful := by
      simp only [State.claimAnswer, State.record_setStation, flagByte_eq_bit]
      rfl
    rw [claim_closed_eq, hanswer] at htake
    rw [← unlist_eq_unlisted]
    refine serveStation_of_no_start h htake fun k hk => condition_claimed _ ?_ ?_ hk
    · rfl
    · exact (nofun : Hold.clamped ≠ .free)
  all_goals exact serveStation_unchanged h htake

/-- Settles O30: the checks in order; a grant stands in the station's context alone. -/
theorem grantPassTable : Obligations.GrantPassTable := by
  unfold Obligations.GrantPassTable
  intro s st f h depth c l u
  have hstation : u.station st = { c with cursor := none } := State.station_setStation_same s st _
  refine ⟨fun hheld => serveStation_unchanged h (takeGrantPass_of_idle u st _ (by rw [hstation]; exact hheld)), fun n hheld => ?_⟩
  intro r
  have htake := takeGrantPass_of_held u st f.payload (n := n) (by rw [hstation]; exact hheld)
  simp only [u, State.moveState_setStation, State.station_setStation_same, State.limits_setStation, State.setStation_setStation,
    State.record_setStation, State.exempt_setStation] at htake
  split_ifs at htake ⊢
  case neg => exact serveStation_of_no_start h htake fun k hk => (condition_setStation s st _ k).symm.trans hk
  all_goals exact serveStation_unchanged h htake

/-- Settles O31: the station's grant decides; the record stays held. -/
theorem startPassTable : Obligations.StartPassTable := by
  unfold Obligations.StartPassTable
  intro s st f h c l u
  have hstation : u.station st = { c with cursor := none } := State.station_setStation_same s st _
  refine ⟨fun hheld => serveStation_unchanged h (takeStartPass_of_idle u st _ (by rw [hstation]; exact hheld)),
    fun n hheld hgrant => serveStation_unchanged h (takeStartPass_of_no_grant u st _ (n := n) (by rw [hstation]; exact hheld)
      (by rw [hstation]; exact hgrant)), fun n depth hheld hgrant => ?_⟩
  have htake := takeStartPass_of_grant u st f.payload (n := n) (depth := depth) (by rw [hstation]; exact hheld)
    (by rw [hstation]; exact hgrant)
  simp only [u, State.moveState_setStation, State.station_setStation_same, State.limits_setStation, State.setStation_setStation,
    State.record_setStation] at htake
  split_ifs at htake ⊢
  · exact serveStation_unchanged h htake
  · exact serveStation_of_no_start h htake fun k => condition_written_hold (by decide) _

/-- Settles O35: the held record's profile, or the cursor's, gives the points; only the cursor changes. -/
theorem contourTables : Obligations.ContourTables := by
  unfold Obligations.ContourTables
  intro s st f c l closed points body after
  have hstation : closed.station st = { c with cursor := none } := State.station_setStation_same s st _
  refine ⟨fun h => ⟨fun hheld => serveStation_unchanged h (takeReadContour_of_idle closed st _ (by rw [hstation]; exact hheld)),
    fun n i hheld hprofile => ?_⟩, fun h => ⟨fun hclosed => serve_unchanged h (takeContourNext_of_closed s st _ hclosed),
    fun k i hcursor hprofile => ?_⟩⟩
  · have htake := takeReadContour_of_held closed st f.payload (n := n) (i := i) (by rw [hstation]; exact hheld)
      (by simpa only [closed, State.validProfile_setStation, State.record_setStation] using hprofile)
    simp only [closed, State.station_setStation_same, State.setStation_setStation, State.record_setStation] at htake
    intro k p
    split_ifs at htake ⊢
    · exact serveStation_unchanged h htake
    · exact serveStation_of_no_start h htake fun k hk => (condition_setStation s st _ k).symm.trans hk
  · exact serve_of_no_start h (takeContourNext_of_cursor s st _ hcursor hprofile) fun k hk => (condition_setStation s st _ k).symm.trans hk

end Sys2Proof.Claims
end

section
/-! PROOFS. RELEASE, PASS DONE and VERIFY (O32, O33, O34). -/
namespace Sys2Proof.Machine

/-! ## RELEASE -/

@[simp] theorem record_holdFreed (s : State) (m : Nat) : s.holdFreed.record m = s.record m := by
  rcases s.holdFreed_cases with ⟨-, -, -, h⟩ | ⟨-, h⟩ <;> rw [h]
  rfl

theorem takeRelease_of_idle {s : State} {st : StationId} (h : (s.station st).held = none) (p : List Byte) :
    takeRelease st p s = refuse s .notHolding := by
  simp only [takeRelease, h]

theorem takeRelease_of_held {s : State} {st : StationId} {n : Nat} (h : (s.station st).held = some n) (p : List Byte) :
    takeRelease st p s =
      if (s.station st).passInFlight = true then refuse s .passInFlight
      else done (s.releaseRecord st n).holdFreed (be 1 n ++ be 1 ((s.releaseRecord st n).record n).stage.code) := by
  simp only [takeRelease, h, record_holdFreed]

/-- The record a release leaves (R142). -/
theorem Record.released_eq (r : Record) : r.released =
    { r with
      hold := .free, holder := none, verified := false
      stage := if r.stage = .planned ∧ r.verified = true then .finished else r.stage
      blocked := if r.stage = .planned ∧ r.verified = true then none else r.blocked } := by
  simp only [Record.released, Bool.and_eq_true, beq_iff_eq]

/-- A release with the cursor closed first, written out (R118, R142). -/
theorem releaseRecord_closed_eq {s : State} {n : Nat} (st : StationId) (h1 : 1 ≤ n) (h64 : n ≤ 64) :
    (s.setStation st { s.station st with cursor := none }).releaseRecord st n =
      if (s.record n).released.stage = .finished then
        ((s.setStation st { s.station st with cursor := none, held := none, grant := none }).setRecord n (s.record n).released).unlist n
      else (s.setStation st { s.station st with cursor := none, held := none, grant := none }).setRecord n (s.record n).released := by
  simp only [State.releaseRecord, State.modStation_eq, State.modRecord_eq, State.setStation_setStation, State.station_setStation_same,
    State.record_setStation, State.record_setRecord_same _ n _ h1 h64, beq_iff_eq]

theorem record_releaseRecord_same {s : State} {n : Nat} (st : StationId) (h1 : 1 ≤ n) (h64 : n ≤ 64) :
    (s.releaseRecord st n).record n = (s.record n).released := by
  simp only [State.releaseRecord, State.modStation_eq, State.modRecord_eq, State.record_setStation,
    State.record_setRecord_same _ n _ h1 h64]
  split <;> simp [State.record_setRecord_same _ n _ h1 h64]

/-! ## PASS DONE -/

theorem takePassDone_of_idle {s : State} {st : StationId} (h : (s.station st).held = none) (p : List Byte) :
    takePassDone st p s = refuse s .notHolding := by
  simp only [takePassDone, h]

theorem not_diameterInRange_iff (d : Nat) : diameterInRange d = false ↔ d < 60000 ∨ 125000 < d := by
  simp only [diameterInRange, Bool.and_eq_false_iff, decide_eq_false_iff_not, not_le]

theorem takePassDone_of_held {s : State} {st : StationId} {n : Nat} (h : (s.station st).held = some n) (p : List Byte) :
    takePassDone st p s =
      if (s.station st).passInFlight = false then refuse s .noPass
      else if field p 0 3 < 60000 ∨ 125000 < field p 0 3 ∨ field p 3 3 < 60000 ∨ 125000 < field p 3 3 then refuse s .outOfRange
      else
        let u := s.endPass st n (field p 0 3) (field p 3 3)
        let d := min (field p 0 3) (field p 3 3)
        done (u.diameterTests n d) ((u.diameterTests n d).passDoneAnswer n d
          (belowCondemn u.limits (u.record n) d || belowUndercut u.limits (u.record n) d)) := by
  simp only [takePassDone, h, Bool.not_eq_true', Bool.or_eq_true, not_diameterInRange_iff, or_assoc]

theorem belowUndercut_iff (v : LimitValues) (r : Record) (d : Nat) :
    belowUndercut v r d = true ↔ ∃ t ∈ r.target, (d : Int) < (t : Int) - v.undercutTol := by
  unfold belowUndercut
  cases r.target <;> simp
  omega

/-- The writes of a PASS DONE with the cursor closed first, written out (R118, R126). -/
theorem endPass_closed_eq (s : State) (st : StationId) (n left right : Nat) :
    (s.setStation st { s.station st with cursor := none }).endPass st n left right =
      (s.setStation st { s.station st with cursor := none, passInFlight := false, suspended := false }).setRecord n
        { s.record n with
          hold := .clamped, passesDone := (s.record n).passesDone + 1, verified := false
          measured := (s.record n).measured.map (fun m => m.withDiameters st left right) } := by
  simp only [State.endPass, State.modStation_eq, State.modRecord_eq, State.setStation_setStation, State.station_setStation_same,
    State.record_setStation]

theorem stationSource_eq (st : StationId) : stationSource st =
    match st with
    | .a => .stationA
    | .b => .stationB := by
  cases st <;> rfl

/-- Whether more passes are needed (R130). -/
theorem above_finish_eq (target : Option Nat) (tol d : Nat) [Decidable (∃ t ∈ target, t + tol < d)] :
    decide (∃ t ∈ target, t + tol < d) = target.any (fun t => t + tol < d) := by
  rw [Bool.eq_iff_iff, decide_eq_true_eq]
  cases target <;> simp

/-! ## VERIFY -/

theorem takeVerify_of_idle {s : State} {st : StationId} (h : (s.station st).held = none) (p : List Byte) :
    takeVerify st p s = refuse s .notHolding := by
  simp only [takeVerify, h]

theorem takeVerify_of_held {s : State} {st : StationId} {n : Nat} (h : (s.station st).held = some n) (p : List Byte) :
    takeVerify st p s =
      if (s.station st).passInFlight = true then refuse s .passInFlight
      else if (measurementAt p 0).inRange = false then refuse s .outOfRange
      else
        let t := (s.storeVerify st n (measurementAt p 0)).verifyRecord n (measurementAt p 0)
        done t (t.verifyAnswer n) := by
  simp only [takeVerify, h, Bool.not_eq_true']

/-- The writes of a VERIFY with the cursor closed first, written out (R118, R140). -/
theorem storeVerify_closed_eq (s : State) (st : StationId) (n : Nat) (m : Measurement) :
    (s.setStation st { s.station st with cursor := none }).storeVerify st n m =
      (s.setStation st { s.station st with cursor := none, grant := none }).setRecord n
        { s.record n with doubtful := false, measured := some { block := m, source := stationSource st } } := by
  simp only [State.storeVerify, State.modStation_eq, State.modRecord_eq, State.setStation_setStation, State.station_setStation_same,
    State.record_setStation]

/-- The verification test as R44 states it. -/
theorem verificationTest_iff (v : LimitValues) (r : Record) (verdict : Verdict) (m : Measurement) :
    verificationTest v r verdict m = true ↔ r.stage = .planned ∧ verdict = .accepted
      ∧ (∃ t ∈ r.target, (t : Int) - v.undercutTol ≤ m.left.diameter ∧ m.left.diameter ≤ t + v.finishTol
          ∧ (t : Int) - v.undercutTol ≤ m.right.diameter ∧ m.right.diameter ≤ t + v.finishTol)
      ∧ m.left.diameter - m.right.diameter ≤ v.axleTol ∧ m.right.diameter - m.left.diameter ≤ v.axleTol := by
  have hband : ∀ t d : Nat, t ≤ d + v.undercutTol ↔ (t : Int) - v.undercutTol ≤ d := fun t d => by omega
  unfold verificationTest
  cases r.target with
  | none => simp
  | some t =>
    simp only [inBand, Bool.and_eq_true, beq_iff_eq, decide_eq_true_eq, Option.mem_some_iff, exists_eq_left', hband, and_assoc]

/-- With a measurement and a VALID profile, VERIFY evaluates the record and marks it by the verdict on that measurement (R140). -/
theorem verifyRecord_eq {s : State} {n : Nat} {m : Measured} {i : ProfileImage} (hm : (s.record n).measured = some m)
    (hi : s.validProfile (s.record n).profile = some i) : s.verifyRecord n m.block =
      (s.evaluateMeasured n).decideVerified n (verdictOf i.header m.block) m.block := by
  have ha := assessment_eq hm hi
  rw [evaluateMeasured_eq ha]
  simp only [State.verifyRecord, ha]
  rfl

end Sys2Proof.Machine
namespace Sys2Proof.Claims
open Sys2Proof.Machine

theorem holdFreed_eq_freed (s : State) : s.holdFreed = freed s := by
  unfold freed
  rcases s.holdFreed_cases with ⟨h1, h2, h3, h⟩ | ⟨h1, h⟩ <;> rw [h]
  · rw [if_pos ⟨h1, h2, h3⟩]
    rfl
  · rw [if_neg h1]

/-- Settles O34: the record freed, unlisted where it is FINISHED, and the freed hold reported. -/
theorem releaseTable : Obligations.ReleaseTable := by
  unfold Obligations.ReleaseTable
  intro s st f h c l refused
  have hstation : refused.station st = { c with cursor := none } := State.station_setStation_same s st _
  refine ⟨fun hheld => serveStation_unchanged h (takeRelease_of_idle (by rw [hstation]; exact hheld) _), fun n hheld h1 h64 => ?_⟩
  intro r finished r' u v
  have hr' : r.released = r' := Record.released_eq r
  have hv : (refused.releaseRecord st n).holdFreed = v := by
    rw [releaseRecord_closed_eq st h1 h64, holdFreed_eq_freed]
    change freed (if r.released.stage = .finished then _ else _) = _
    rw [hr', unlist_eq_unlisted]
  have hrecord : (refused.releaseRecord st n).record n = r' := by
    rw [record_releaseRecord_same st h1 h64, State.record_setStation]
    exact hr'
  have htake := takeRelease_of_held (s := refused) (st := st) (n := n) (by rw [hstation]; exact hheld) f.payload
  rw [hv, hrecord, hstation] at htake
  split_ifs at htake ⊢
  · exact serveStation_unchanged h htake
  · exact serveStation_taken h htake

/-- Settles O32: the pass ended, the diameter tests in order, and the answer from the record as they left it. -/
theorem passDoneTable : Obligations.PassDoneTable := by
  unfold Obligations.PassDoneTable
  intro s st f h left right d c l refused
  have hstation : refused.station st = { c with cursor := none } := State.station_setStation_same s st _
  refine ⟨fun hheld => serveStation_unchanged h (takePassDone_of_idle (by rw [hstation]; exact hheld) _), fun n hheld h1 h64 => ?_⟩
  intro r u worn under v q
  have hu : refused.endPass st n left right = u := by
    refine (endPass_closed_eq s st n left right).trans ?_
    cases st <;> rfl
  have hlimits : u.limits = s.limits := by simp [u]
  have hrecord := State.record_setRecord_same (s.setStation st { c with cursor := none, passInFlight := false, suspended := false }) n
  have hworn : belowCondemn u.limits (u.record n) d = true ↔ worn := by
    rw [belowCondemn, decide_eq_true_eq, hlimits, hrecord _ h1 h64]
    rfl
  have hunder : belowUndercut u.limits (u.record n) d = true ↔ under := by
    rw [belowUndercut_iff, hlimits, hrecord _ h1 h64]
  have hv : u.diameterTests n d = v := by
    simp only [State.diameterTests, hworn, hunder]
    rfl
  have hover : (belowCondemn u.limits (u.record n) d || belowUndercut u.limits (u.record n) d) = decide (worn ∨ under) := by
    rw [Bool.eq_iff_iff, Bool.or_eq_true, hworn, hunder, decide_eq_true_eq]
  have hvlimits : v.limits = s.limits := by rw [← hv, (planFrame_diameterTests u n d).limits, hlimits]
  have hanswer : v.passDoneAnswer n d (decide (worn ∨ under)) =
      be 1 n ++ be 1 q.passesDone ++ be 1 (s.limits.maxPasses - q.passesDone) ++ be 3 d ++ be 3 (q.target.getD 0)
        ++ be 1 q.stage.code ++ bit (decide (worn ∨ under))
        ++ bit (decide (q.stage = .planned ∧ ∃ t ∈ q.target, t + s.limits.finishTol < d)) := by
    simp only [State.passDoneAnswer, hvlimits, flagByte_eq_bit, Bool.decide_and, above_finish_eq]
    rfl
  have htake := takePassDone_of_held (s := refused) (st := st) (n := n) (by rw [hstation]; exact hheld) f.payload
  simp only [hstation] at htake
  change takePassDone st f.payload refused = (if _ then _ else if _ then _ else done ((refused.endPass st n left right).diameterTests n d)
    (((refused.endPass st n left right).diameterTests n d).passDoneAnswer n d
      (belowCondemn (refused.endPass st n left right).limits ((refused.endPass st n left right).record n) d
        || belowUndercut (refused.endPass st n left right).limits ((refused.endPass st n left right).record n) d))) at htake
  rw [hu, hover, hv, hanswer] at htake
  split_ifs at htake ⊢
  · exact serveStation_unchanged h htake
  · exact serveStation_unchanged h htake
  · exact serveStation_taken h htake

/-- Settles O33: the measurement stored, the evaluation, and the verified mark. -/
theorem verifyTable : Obligations.VerifyTable := by
  unfold Obligations.VerifyTable
  intro s st f h m c l refused
  have hstation : refused.station st = { c with cursor := none } := State.station_setStation_same s st _
  refine ⟨fun hheld => serveStation_unchanged h (takeVerify_of_idle (by rw [hstation]; exact hheld) _),
    fun n i hheld h1 h64 hprofile => ?_⟩
  intro u w q verified v
  have hu : refused.storeVerify st n m = u := by
    refine (storeVerify_closed_eq s st n m).trans ?_
    cases st <;> rfl
  have hrecord := State.record_setRecord_same (s.setStation st { c with cursor := none, grant := none }) n
  have hlimits : w.limits = s.limits := (planFrame_evaluateMeasured u n).limits.trans (by simp [u])
  have hmeasured : ∃ x, (u.record n).measured = some { block := m, source := x } := ⟨_, by rw [hrecord _ h1 h64]⟩
  have hvalid : u.validProfile (u.record n).profile = some i := by
    have hsame : ∀ k, u.validProfile k = s.validProfile k := fun k => by simp [u]
    rw [hrecord _ h1 h64, hsame]
    exact hprofile
  have hv : u.verifyRecord n m = v := by
    obtain ⟨x, hx⟩ := hmeasured
    refine (verifyRecord_eq hx hvalid).trans ?_
    have htest : verificationTest w.limits q (verdictOf i.header m) m = decide verified := by
      rw [Bool.eq_iff_iff, verificationTest_iff, hlimits, decide_eq_true_eq]
    change w.setRecord n { q with verified := verificationTest w.limits q (verdictOf i.header m) m } = v
    rw [htest]
  have hanswer : v.verifyAnswer n = be 1 q.stage.code ++ be 3 (q.target.getD 0) ++ be 3 (q.ownNeed.getD 0) ++ bit (decide verified)
      ++ bit q.blocked.isSome ++ be 3 ((q.blocked.map (fun b => b.heldBack)).getD 0) := by
    have hvrecord : v.record n = { q with verified := decide verified } := State.record_setRecord_same w n _ h1 h64
    simp only [State.verifyAnswer, hvrecord, flagByte_eq_bit, optional_eq, Option.isSome_map, List.append_assoc]
  have htake := takeVerify_of_held (s := refused) (st := st) (n := n) (by rw [hstation]; exact hheld) f.payload
  simp only [hstation] at htake
  change takeVerify st f.payload refused = (if _ then _ else if _ then _ else done ((refused.storeVerify st n m).verifyRecord n m)
    (((refused.storeVerify st n m).verifyRecord n m).verifyAnswer n)) at htake
  rw [hu, hv, hanswer] at htake
  split_ifs at htake ⊢
  · exact serveStation_unchanged h htake
  · exact serveStation_unchanged h htake
  · exact serveStation_taken h htake

end Sys2Proof.Claims
end

section
/-! PROOFS. GAUGE REPORT (O28). -/
namespace Sys2Proof.Machine

theorem bump_of_le {k : Nat} (h : k ≤ 255) : bump k = if k < 255 then k + 1 else 255 := by
  simp only [bump, Config.gaugeCountMax]
  split_ifs <;> omega

/-- A mismatch names the serial the record has, where both are present and differ (R101, R104). -/
theorem serialMismatch_eq (carried held : Option Nat) : serialMismatch carried held =
    if carried ≠ none ∧ held ≠ none ∧ carried ≠ held then held else none := by
  cases carried with
  | none => simp [serialMismatch]
  | some c =>
    cases held with
    | none => simp [serialMismatch]
    | some h => by_cases hc : c = h <;> simp [serialMismatch, hc]

/-- A duplicate names the other ordinal that the map pairs with the serial carried (R101, R104). -/
theorem serialDuplicate_eq (map : List (Nat × Nat)) (carried : Option Nat) (n : Nat)
    [Decidable (∃ k ∈ carried.bind (serialOrdinal map), k ≠ n)] : serialDuplicate map carried n =
      if ∃ k ∈ carried.bind (serialOrdinal map), k ≠ n then carried.bind (serialOrdinal map) else none := by
  cases carried with
  | none => simp [serialDuplicate]
  | some c =>
    simp only [serialDuplicate, Option.bind_some]
    cases serialOrdinal map c with
    | none => simp
    | some k => by_cases hk : k = n <;> simp [hk]

/-- The record a report writes before its evaluation (R105). -/
def Record.reported (r : Record) (m : Measurement) (serial : Option Nat) : Record :=
  { r with measured := some { block := m, source := .gauge }, doubtful := false
           serial := match r.serial with
             | some x => some x
             | none => serial }

theorem setRecord_outside (s : State) {n : Nat} (h : ¬ (1 ≤ n ∧ n ≤ 64)) (r : Record) : s.setRecord n r = s := by
  have hout : ¬ (1 ≤ n ∧ n ≤ 64) := h
  simp only [State.setRecord, tableSet]
  rw [dif_neg hout]

/-- A first serial is stored with the measurement: the two writes of the record are one (R105). -/
theorem setRecord_serial_measured (s : State) (n : Nat) (m : Measurement) {x : Nat} (hserial : (s.record n).serial = none) :
    (s.setRecord n { s.record n with serial := some x }).setRecord n
        { (s.setRecord n { s.record n with serial := some x }).record n with measured := some { block := m, source := .gauge }, doubtful := false }
      = s.setRecord n ((s.record n).reported m (some x)) := by
  by_cases hn : 1 ≤ n ∧ n ≤ 64
  · rw [State.setRecord_setRecord, State.record_setRecord_same _ _ _ hn.1 hn.2, Record.reported, hserial]
  · simp only [setRecord_outside _ hn]

/-- The writes of an accepted report, written out (R26, R105). -/
theorem storeReport_eq (s : State) (n : Nat) (m : Measurement) (serial : Option Nat) : s.storeReport n m serial =
    { s.setRecord n ((s.record n).reported m serial) with
      gaugeCounts := { accepted := bump s.gaugeCounts.accepted, refused := s.gaugeCounts.refused }
      serialMap := match (s.record n).serial, serial with
        | none, some x => serialInsert x n s.serialMap
        | _, _ => s.serialMap } := by
  unfold State.storeReport State.storeSerial Record.reported
  cases serial with
  | none => cases hserial : (s.record n).serial <;> simp only [State.modRecord_eq, hserial] <;> rfl
  | some x =>
    cases hserial : (s.record n).serial with
    | some y => simp only [State.modRecord_eq, hserial]; rfl
    | none =>
      have hwrites := setRecord_serial_measured s n m (x := x) hserial
      rw [Record.reported, hserial] at hwrites
      exact congrArg (fun u : State => { u with
        gaugeCounts := { accepted := bump s.gaugeCounts.accepted, refused := s.gaugeCounts.refused }
        serialMap := serialInsert x n s.serialMap }) hwrites

/-- GAUGE REPORT's checks in order and its effect (R101, R105). -/
theorem gaugeIntake_eq (n : Nat) (m : Measurement) (serial : Option Nat) (s : State)
    [Decidable (∃ k ∈ serial.bind (serialOrdinal s.serialMap), k ≠ n)] : gaugeIntake n m serial s =
      if s.isLoaded = false then gaugeRefusal s .notLoaded []
      else if s.alignment.gauge ≠ some n then gaugeRefusal s .notAligned (be 1 (s.alignment.gauge.getD 0))
      else if (s.record n).stage = .condemned then gaugeRefusal s .wrongStage []
      else if m.inRange = false ∨ serial = some 0 then gaugeRefusal s .outOfRange []
      else if serial ≠ none ∧ (s.record n).serial ≠ none ∧ serial ≠ (s.record n).serial then
        serialRefusal s .serialMismatch (be 4 ((s.record n).serial.getD 0))
      else if ∃ k ∈ serial.bind (serialOrdinal s.serialMap), k ≠ n then
        serialRefusal s .duplicateSerial (be 1 ((serial.bind (serialOrdinal s.serialMap)).getD 0))
      else done ((s.storeReport n m serial).evaluateMeasured n) (((s.storeReport n m serial).evaluateMeasured n).gaugeAnswer n) := by
  simp only [gaugeIntake, serialMismatch_eq, serialDuplicate_eq, Bool.not_eq_true', bne_iff_ne, beq_iff_eq, Bool.or_eq_true, ordinalByte]
  refine if_congr Iff.rfl rfl (if_congr Iff.rfl rfl (if_congr Iff.rfl rfl (if_congr Iff.rfl rfl ?_)))
  by_cases hmismatch : serial ≠ none ∧ (s.record n).serial ≠ none ∧ serial ≠ (s.record n).serial
  · obtain ⟨x, hx⟩ := Option.ne_none_iff_exists'.mp hmismatch.2.1
    rw [if_pos hmismatch, if_pos hmismatch, hx]
    rfl
  · rw [if_neg hmismatch, if_neg hmismatch]
    by_cases hduplicate : ∃ k ∈ serial.bind (serialOrdinal s.serialMap), k ≠ n
    · have ⟨k, hk, _⟩ := hduplicate
      rw [if_pos hduplicate, if_pos hduplicate, Option.mem_def.mp hk]
      rfl
    · rw [if_neg hduplicate, if_neg hduplicate]

end Sys2Proof.Machine
namespace Sys2Proof.Claims
open Sys2Proof.Machine

theorem gaugeAnswer_eq (s : State) (n : Nat) : s.gaugeAnswer n =
    be 1 n ++ be 1 (s.record n).stage.code ++ bit (s.record n).target.isSome ++ be 3 ((s.record n).target.getD 0)
      ++ be 3 ((s.record n).ownNeed.getD 0) ++ bit (s.record n).unfit
      ++ bit (s.record n).blocked.isSome ++ be 3 (((s.record n).blocked.map (fun b => b.heldBack)).getD 0) := by
  simp only [State.gaugeAnswer, flagByte_eq_bit, optional_eq, Option.isSome_map, List.append_assoc]

/-- Settles O28: every refusal is counted, those for a serial are flagged; else the report is stored and the record evaluated. -/
theorem gaugeReportTable : Obligations.GaugeReportTable := by
  unfold Obligations.GaugeReportTable
  intro s f h n m serial r bump' refused u haccepted hrefused
  have hcount : s.countRefused = refused := by
    simp only [State.countRefused, bump_of_le hrefused]
    rfl
  have hu : s.storeReport n m serial = u := by
    rw [storeReport_eq, bump_of_le haccepted]
    rfl
  have htaking : gaugeIntake n m serial s = takeGaugeReport f.payload s := by
    have hreport : reportSerial f.payload = serial := by simp [reportSerial, serial]
    rw [takeGaugeReport, hreport]
  have htake := gaugeIntake_eq n m serial s
  rw [htaking] at htake
  have hserial : (serial ≠ none ∧ ∃ k ∈ serial.bind (serialOrdinal s.serialMap), k ≠ n) ↔
      ∃ k ∈ serial.bind (serialOrdinal s.serialMap), k ≠ n := by
    cases serial <;> simp
  have hcounted : ∀ k, refused.condition k = true → s.condition k = true := fun k hk =>
    (State.condition_congr (s := s) (t := refused) rfl rfl rfl rfl k).symm.trans hk
  have hflagged : ∀ k, (refused.flag .serialConflict).condition k = true → s.condition k = true := fun k hk =>
    hcounted k ((State.condition_flag refused _ k).symm.trans hk)
  simp only [hu, gaugeAnswer_eq, gaugeRefusal, serialRefusal, hcount] at htake
  simp only [hserial]
  split_ifs at htake ⊢
  · exact serve_of_no_start h htake hcounted
  · exact serve_of_no_start h htake hcounted
  · exact serve_of_no_start h htake hcounted
  · exact serve_of_no_start h htake hcounted
  · exact serve_of_no_start h htake hflagged
  · exact serve_of_no_start h htake hflagged
  · refine (serve_some h).trans ?_
    rw [htake]
    rfl

end Sys2Proof.Claims
end

section
/-! PROOFS. The disposition of an arriving frame and the receiver of a link (O40). -/
namespace Sys2Proof.Machine

/-! ## The receiver -/

/-- The bytes of a frame after its start marker (R168, R216). -/
def wireBytes (f : CellFrame) : List Byte := [f.kind, f.tag, BitVec.ofNat 8 f.payload.length] ++ f.payload ++ be 2 f.check.toNat

section
variable {f : CellFrame} (h : f.payload.length ≤ 200)

theorem length_wire (f : CellFrame) : (wireBytes f).length = f.payload.length + 5 := by simp [wireBytes]

include h

/-- A frame broken off before its last byte is neither refused for its length nor complete (R168). -/
theorem wire_broken_off {k : Nat} (hk : k < (wireBytes f).length) : lengthRefused ((wireBytes f).take k) = false ∧ assembled ((wireBytes f).take k) = none := by
  have hlength : f.payload.length % 256 = f.payload.length := by omega
  rw [length_wire] at hk
  match k, hk with
  | 0, _ => exact ⟨rfl, rfl⟩
  | 1, _ => exact ⟨rfl, rfl⟩
  | 2, _ => exact ⟨rfl, rfl⟩
  | j + 3, hk =>
    have htake : (wireBytes f).take (j + 3) = f.kind :: f.tag :: BitVec.ofNat 8 f.payload.length :: (f.payload ++ be 2 f.check.toNat).take j := by
      simp [wireBytes]
    have hrest : ((f.payload ++ be 2 f.check.toNat).take j).length = j := by
      rw [List.length_take, List.length_append, length_be]
      omega
    rw [htake]
    constructor
    · match hj : (f.payload ++ be 2 f.check.toNat).take j with
      | [] =>
        simp only [lengthRefused, Config.cellPayloadMax, BitVec.toNat_ofNat, decide_eq_false_iff_not]
        omega
      | _ :: _ => rfl
    · have hshort : ¬ j = f.payload.length + 2 := by omega
      simp [assembled, hrest, hlength, hshort]

/-- The bytes of a frame broken off stand in the receiver and give no command (R168). -/
theorem run_broken_off (l : LinkId) {k : Nat} (hk : k < (wireBytes f).length) (rest : List LineEvent) :
    Receiver.run l (.inFrame []) (((wireBytes f).take k).map (.byte false) ++ rest) = Receiver.run l (.inFrame ((wireBytes f).take k)) rest := by
  refine Receiver.run_inFrame l ((wireBytes f).take k) [] rest fun j _ hj => ?_
  have hle : j ≤ k := hj.trans (List.length_take_le k _)
  rw [List.nil_append, List.take_take, min_eq_left hle]
  exact wire_broken_off h (by omega)

theorem lengthRefused_wire : lengthRefused (wireBytes f) = false := by
  have hlong : 3 < (wireBytes f).length := by rw [length_wire]; omega
  match hw : wireBytes f with
  | [] | [_] | [_, _] => rfl
  | [_, _, _] => exact absurd (congrArg List.length hw) (by simp; omega)
  | _ :: _ :: _ :: _ :: _ => rfl

/-- A whole frame in time arrives (R168). -/
theorem run_wire (l : LinkId) (rest : List LineEvent) :
    Receiver.run l (.inFrame []) ((wireBytes f).map (.byte false) ++ rest) = .cellFrameArrival l f :: Receiver.run l .hunting rest := by
  have hlen : (wireBytes f).length = f.payload.length + 4 + 1 := length_wire f
  obtain ⟨last, hlast⟩ : ∃ b, wireBytes f = (wireBytes f).take (f.payload.length + 4) ++ [b] :=
    ⟨(wireBytes f)[f.payload.length + 4], by rw [List.take_append_getElem, List.take_of_length_le (by omega)]⟩
  have hbroken : f.payload.length + 4 < (wireBytes f).length := by omega
  have hsplit : (wireBytes f).map (LineEvent.byte false) ++ rest =
      ((wireBytes f).take (f.payload.length + 4)).map (LineEvent.byte false) ++ (.byte false last :: rest) := by
    conv => lhs; rw [hlast]
    rw [List.map_append, List.append_assoc]
    rfl
  rw [hsplit, run_broken_off h l hbroken]
  have hcomplete : assembled (wireBytes f) = some f := assembled_frame f h
  simp only [Receiver.run, Receiver.on, Receiver.take, ← hlast, lengthRefused_wire h, hcomplete]
  rfl

end

/-- A late byte ends the frame in progress and is examined afresh (R168). -/
theorem run_late (l : LinkId) (bytes : List Byte) (b : Byte) (rest : List LineEvent) : Receiver.run l (.inFrame bytes) (.byte true b :: rest)
    = .malformedFrameDiscarded l .byteLate :: Receiver.run l .hunting (.byte true b :: rest) := by
  simp [Receiver.run, Receiver.on, Receiver.take]

/-- A frame in progress is lost at RESET, and until reset ends no byte is taken (R166). -/
theorem run_reset (l : LinkId) (bytes : List Byte) (lost : List (Bool × Byte)) (rest : List LineEvent) :
    Receiver.run l (.inFrame bytes) (.reset :: (lost.map (fun e => LineEvent.byte e.1 e.2) ++ .resetEnd :: rest))
      = Receiver.run l .hunting rest := by
  rw [← Receiver.run_idle l lost rest]
  rfl

theorem run_no_marker (l : LinkId) (late : Bool) {b : Byte} (hb : b ≠ 195#8) (rest : List LineEvent) :
    Receiver.run l .hunting (.byte late b :: rest) = Receiver.run l .hunting rest := by
  simp [Receiver.run, Receiver.on, Receiver.take, hunt, Config.cellStartMarker, hb]

/-- A length byte above 200 gives the frame up (R168). -/
theorem run_long (l : LinkId) (kind tag : Byte) {length : Byte} (h : 200 < length.toNat) (rest : List LineEvent) :
    Receiver.run l (.inFrame []) ([kind, tag, length].map (.byte false) ++ rest)
      = .malformedFrameDiscarded l .lengthTooGreat :: Receiver.run l .hunting rest := by
  simp [Receiver.run, Receiver.on, Receiver.take, lengthRefused, assembled, Config.cellPayloadMax, h]

/-! ## Dispositions -/

section
variable (s : State) (l : LinkId) (f : CellFrame)

theorem not_checkAgrees_iff : f.checkAgrees = false ↔ f.check ≠ crc (f.kind :: f.tag :: BitVec.ofNat 8 f.payload.length :: f.payload) := by
  simp [CellFrame.checkAgrees, CellFrame.covered]

variable {s l f}

/-- Row 1 of R170, by the check code. -/
theorem disposition_of_bad_check (h : f.checkAgrees = false) : s.disposition l f = .malformed := by
  simp only [State.disposition, h]
  rfl

section
variable (hcheck : f.checkAgrees = true)
include hcheck

/-- Row 2 of R170. -/
theorem disposition_of_disabled (h : (s.link l).state = .disabled) : s.disposition l f = .disabled := by
  simp [State.disposition, hcheck, h]

section
variable (henabled : (s.link l).state ≠ .disabled)
include henabled

/-- Row 3 of R170. -/
theorem disposition_of_starting (h : s.phase = .starting) : s.disposition l f = .starting := by
  simp [State.disposition, hcheck, henabled, h]

section
variable (hwork : s.phase ≠ .starting)
include hwork

/-- Row 4 of R170: no kind. -/
theorem disposition_of_no_kind (h : requestKindOf f.kind = none) : s.disposition l f = .unknown := by
  simp [State.disposition, hcheck, henabled, hwork, admittedKind, h]

/-- Row 4 of R170: a kind that the role does not admit. -/
theorem disposition_of_foreign_kind {k : RequestKind} (h : requestKindOf f.kind = some k) (hrole : l.admits k = false) :
    s.disposition l f = .unknown := by
  simp [State.disposition, hcheck, henabled, hwork, admittedKind, h, hrole]

/-- Row 1 of R170, by the length. -/
theorem disposition_of_bad_length {k : RequestKind} (h : requestKindOf f.kind = some k) (hrole : l.admits k = true)
    (hlength : k.fits f.payload.length = false) : s.disposition l f = .malformed := by
  simp [State.disposition, hcheck, henabled, hwork, admittedKind, h, hrole, hlength]

/-- The rows of R170 from row 5 on. -/
theorem disposition_of_request {k : RequestKind} (h : requestKindOf f.kind = some k) (hrole : l.admits k = true)
    (hlength : k.fits f.payload.length = true) : s.disposition l f = (s.link l).dispose k := by
  simp [State.disposition, hcheck, henabled, hwork, admittedKind, h, hrole, hlength]

end
end
end

theorem execCellFrameArrival_of_reset (h : s.phase = .resetAsserted) : execCellFrameArrival l f s = .next s := by
  simp only [execCellFrameArrival, h]

theorem execCellFrameArrival_of_not_reset (h : s.phase ≠ .resetAsserted) :
    execCellFrameArrival l f s = .next (s.dispose l f (s.disposition l f)) := by
  unfold execCellFrameArrival
  split
  · rename_i hreset; exact absurd hreset h
  · rfl
  · rfl

end

end Sys2Proof.Machine
namespace Sys2Proof.Claims
open Sys2Proof.Machine

section
variable (s : State) (l : LinkId) (f : CellFrame)

theorem interfaceAnswer_eq_interfaced (r : Reply) : s.interfaceAnswer l f r = interfaced s l f r.bytes := by
  unfold interfaced
  rw [State.interfaceAnswer, State.modLink_eq]
  rcases (s.link l).interfaceAnswer_cases f.kind (f.tag.setWidth 4) r with ⟨hroom, h⟩ | ⟨hfull, h⟩ <;> rw [h]
  · exact (if_pos hroom).symm
  · rw [State.setLink_link]
    exact (if_neg (Nat.not_lt.mpr hfull)).symm

theorem bytes_bare (reason : Reason) : (Reply.bare reason).bytes = be 1 reason.code := List.append_nil _

theorem recordFault_eq_faulted (cause : FaultCause) : s.recordFault l cause = faulted s l cause := rfl

theorem discardMalformed_eq : s.discardMalformed l =
    if (s.link l).state = .disabled ∨ s.phase = .starting then s else faulted s l .malformed := by
  simp only [State.discardMalformed, Bool.or_eq_true, beq_iff_eq, recordFault_eq_faulted]

/-- A HELLO at its arrival, written out (R176). -/
theorem helloAtArrival_eq : s.helloAtArrival l f =
    if field f.payload 0 1 ≠ linkNumber l then interfaced s l f (be 1 Reason.wrongRole.code)
    else interfaced ((s.setLink l { s.link l with state := .up, fault := .none }).flag .linkUp) l f
      (be 1 Reason.done.code ++ be 1 (linkNumber l) ++ be 1 (linkNumber l)) := by
  have hdone : (helloDone l).bytes = be 1 Reason.done.code ++ be 1 (linkNumber l) ++ be 1 (linkNumber l) := by
    simp only [Reply.bytes, helloDone, List.append_assoc]
  by_cases hrole : field f.payload 0 1 = linkNumber l
  · simp only [State.helloAtArrival, roleMatches, hrole, beq_self_eq_true, if_true, interfaceAnswer_eq_interfaced, hdone, ne_eq,
      not_true_eq_false, if_false, State.modLink_eq]
  · simp only [State.helloAtArrival, roleMatches, beq_eq_false_iff_ne.mpr hrole, interfaceAnswer_eq_interfaced, bytes_bare, ne_eq, hrole,
      not_false_eq_true, if_true, Bool.false_eq_true, if_false]

/-- The rows of R170 from row 5 on (R171, R172, R176). -/
theorem dispose_request (k : RequestKind) : s.dispose l f ((s.link l).dispose k) =
    if (s.link l).state ≠ .up then
      if k ≠ .hello then interfaced s l f (be 1 Reason.linkReset.code)
      else if field f.payload 0 1 ≠ linkNumber l then interfaced s l f (be 1 Reason.wrongRole.code)
      else
        interfaced ((s.setLink l { s.link l with state := .up, fault := .none }).flag .linkUp) l f
          (be 1 Reason.done.code ++ be 1 (linkNumber l) ++ be 1 (linkNumber l))
    else if 4 ≤ (s.link l).inbox.length then interfaced (faulted s l .inboxFull) l f (be 1 Reason.inboxFull.code)
    else
      s.setLink l { s.link l with
        inbox := (s.link l).inbox ++ [{ kind := k, tag := f.tag.setWidth 4, payload := f.payload, answered := false }] } := by
  unfold LinkContext.dispose
  simp only [bne_iff_ne, beq_iff_eq, Config.inboxDepth]
  by_cases hup : (s.link l).state = .up
  · rw [if_neg (not_not.mpr hup), if_neg (not_not.mpr hup)]
    split_ifs
    · simp only [State.dispose, interfaceAnswer_eq_interfaced, bytes_bare, recordFault_eq_faulted]
    · rfl
  · rw [if_pos hup, if_pos hup]
    by_cases hkind : k = .hello
    · rw [if_pos hkind, if_neg (not_not.mpr hkind)]
      exact helloAtArrival_eq s l f
    · rw [if_neg hkind, if_pos hkind]
      simp only [State.dispose, interfaceAnswer_eq_interfaced, bytes_bare]

end

/-- The arrival of a frame, row by row (R170). -/
theorem cellFrameArrival_rows (s : State) (l : LinkId) (f : CellFrame) :
    s.dispose l f (s.disposition l f) =
      if f.check ≠ crc (f.kind :: f.tag :: BitVec.ofNat 8 f.payload.length :: f.payload) then
        if (s.link l).state = .disabled ∨ s.phase = .starting then s else faulted s l .malformed
      else if (s.link l).state = .disabled then interfaced s l f (be 1 Reason.disabled.code)
      else if s.phase = .starting then interfaced s l f (be 1 Reason.starting.code)
      else
        match requestKindOf f.kind with
        | none => interfaced (faulted s l .unknown) l f (be 1 Reason.unknown.code)
        | some k =>
          if l.admits k = false then interfaced (faulted s l .unknown) l f (be 1 Reason.unknown.code)
          else if k.fits f.payload.length = false then faulted s l .malformed
          else s.dispose l f ((s.link l).dispose k) := by
  by_cases hbad : f.checkAgrees = false
  · rw [if_pos ((not_checkAgrees_iff f).mp hbad), disposition_of_bad_check hbad]
    exact discardMalformed_eq s l
  rw [if_neg fun h => hbad ((not_checkAgrees_iff f).mpr h)]
  have hcheck : f.checkAgrees = true := by simpa using hbad
  by_cases hdisabled : (s.link l).state = .disabled
  · rw [if_pos hdisabled, disposition_of_disabled hcheck hdisabled]
    exact (interfaceAnswer_eq_interfaced s l f _).trans (by rw [bytes_bare])
  rw [if_neg hdisabled]
  by_cases hstarting : s.phase = .starting
  · rw [if_pos hstarting, disposition_of_starting hcheck hdisabled hstarting]
    exact (interfaceAnswer_eq_interfaced s l f _).trans (by rw [bytes_bare])
  rw [if_neg hstarting]
  have hunknown : s.dispose l f .unknown = interfaced (faulted s l .unknown) l f (be 1 Reason.unknown.code) :=
    (interfaceAnswer_eq_interfaced (faulted s l .unknown) l f _).trans (by rw [bytes_bare])
  split
  · rename_i hkind
    rw [disposition_of_no_kind hcheck hdisabled hstarting hkind, hunknown]
  · rename_i k hkind
    split_ifs with hrole hlength
    · rw [disposition_of_foreign_kind hcheck hdisabled hstarting hkind hrole, hunknown]
    · rw [disposition_of_bad_length hcheck hdisabled hstarting hkind (by simpa using hrole) hlength]
      exact (discardMalformed_eq s l).trans (if_neg (by tauto))
    · rw [disposition_of_request hcheck hdisabled hstarting hkind (by simpa using hrole) (by simpa using hlength)]

/-- Settles O40: the rows of R170 in order, and the receiver event by event. -/
theorem frameArrivalRows : Obligations.FrameArrivalRows := by
  unfold Obligations.FrameArrivalRows
  refine ⟨fun s l f => ?arrival, fun s l why => ?discarded, fun l late b rest hb => run_no_marker l late hb rest,
    fun l late kind tag length rest h => ?long, fun l late f rest h => ⟨?whole, fun k hk => ⟨fun b => ?late, fun lost => ?reset⟩⟩⟩
  case arrival =>
    intro c
    by_cases hreset : s.phase = .resetAsserted
    · rw [if_pos hreset]
      exact execCellFrameArrival_of_reset hreset
    · rw [if_neg hreset]
      refine (execCellFrameArrival_of_not_reset hreset).trans (congrArg Host.Outcome.next ?_)
      refine (cellFrameArrival_rows s l f).trans ?_
      simp only [dispose_request] <;> rfl
  case discarded =>
    change execMalformedFrameDiscarded l why s = _
    unfold execMalformedFrameDiscarded
    split
    · rename_i hphase
      rw [if_neg (by rw [hphase]; exact fun h => absurd h.1 (by decide))]
    · rename_i hphase
      rw [if_neg (by rw [hphase]; exact fun h => absurd h.1 (by decide)), discardMalformed_eq, if_pos (.inr hphase)]
    · rename_i hphase
      rw [discardMalformed_eq]
      by_cases hdisabled : (s.link l).state = .disabled
      · rw [if_pos (.inl hdisabled), if_neg fun h => h.2 hdisabled]
      · rw [if_neg (by rw [hphase]; simpa using hdisabled), if_pos ⟨hphase, hdisabled⟩]
  case long => exact (Receiver.run_marker l late _).trans (run_long l kind tag h rest)
  case whole => exact (Receiver.run_marker l late _).trans (run_wire h l rest)
  case late => exact ((Receiver.run_marker l late _).trans (run_broken_off h l hk _)).trans (run_late l _ b rest)
  case reset => exact ((Receiver.run_marker l late _).trans (run_broken_off h l hk _)).trans (run_reset l _ lost rest)

end Sys2Proof.Claims
end

section
/-! PROOFS. RESET LINK (O43). -/
namespace Sys2Proof.Machine

theorem three_lt_of_linkOf_none {number : Nat} (h : linkOf number = none) : 3 < number := by
  by_contra hle
  have hlow : number ≤ 3 := Nat.le_of_not_lt hle
  interval_cases number <;> exact absurd h (by decide)

/-- The answers of the untaken frames, written out (R179). -/
theorem flush_eq (c : LinkContext) : c.flush = { c with
    state := .resetting, inbox := c.inbox.map (fun f => { f with answered := true })
    outgoing := c.outgoing ++ (c.inbox.filter (fun f => !f.answered)).map (fun f =>
      { origin := .inboxAnswer, kind := f.kind.code, tag := f.tag, payload := be 1 Reason.linkReset.code }) } := by
  simp only [LinkContext.flush, LinkContext.untaken, answerTo, Reply.bytes, Reply.bare, List.append_nil]

theorem linkReset_eq (c : StationContext) : c.linkReset =
    { enabled := c.enabled, held := none, grant := none, passInFlight := false, suspended := false, watch := 0, cursor := none } := rfl

section
variable (s : State)

theorem resetStation_of_idle (st : StationId) (h : (s.station st).held = none) :
    s.resetStation st = s.setStation st (s.station st).linkReset := by
  simp only [State.resetStation, h, State.modStation_eq]

theorem resetStation_of_held (st : StationId) {n : Nat} (h : (s.station st).held = some n) :
    s.resetStation st = ((s.setStation st (s.station st).linkReset).setRecord n (s.record n).freedByReset).holdFreed := by
  simp only [State.resetStation, h, State.modStation_eq, State.modRecord_eq, State.record_setStation]

theorem keptAlignment_eq : s.keptAlignment =
    { gauge := none, stationA := if s.stationA.held = none then none else s.alignment.stationA
      stationB := if s.stationB.held = none then none else s.alignment.stationB } := by
  have hkept : ∀ held aligned : Option Nat, (if held.isSome then aligned else none) = if held = none then none else aligned :=
    fun held aligned => by cases held <;> rfl
  rw [State.keptAlignment, hkept, hkept]

/-- The link's part of a reset stands beside its owner's (R179, R180). -/
theorem takeResetLink_of_link {number : Nat} {l : LinkId} (hl : linkOf number = some l) : takeResetLink number s =
    if (s.link l).state = .disabled then refuse s .disabled
    else done ((s.setLink l (s.link l).flush).resetOwner l) (be 1 ((s.link l).inbox.filter (fun f => !f.answered)).length) := by
  simp only [takeResetLink, hl, beq_iff_eq, State.modLink_eq, LinkContext.untaken]

end

end Sys2Proof.Machine
namespace Sys2Proof.Claims
open Sys2Proof.Machine

/-- A station's part of a link reset, after the link's part has left the station and the record as they stood (R146, R154). -/
theorem resetStation_eq (s u : State) (st : StationId) (hstation : u.station st = s.station st) (hrecord : ∀ n, u.record n = s.record n) :
    u.resetStation st =
      match (s.station st).held with
      | none => u.setStation st (s.station st).linkReset
      | some n => freed ((u.setStation st (s.station st).linkReset).setRecord n (s.record n).freedByReset) := by
  split
  · rename_i hheld
    rw [resetStation_of_idle u st (by rw [hstation]; exact hheld), hstation]
  · rename_i n hheld
    rw [resetStation_of_held u st (by rw [hstation]; exact hheld), hstation, hrecord, holdFreed_eq_freed]

/-- Settles O43: the link flushed, then the part of the block that owns it. -/
theorem resetLinkTable : Obligations.ResetLinkTable := by
  unfold Obligations.ResetLinkTable
  intro s number hrun
  refine ⟨fun h => ⟨three_lt_of_linkOf_none h, portCommand_unchanged hrun (by simp only [takeResetLink, h] <;> rfl)⟩,
    fun l hl hdisabled => portCommand_unchanged hrun ((takeResetLink_of_link s hl).trans (if_pos hdisabled)),
    fun l hl henabled => ?_⟩
  intro c waiting u emptied station v
  have hu : s.setLink l (s.link l).flush = u := by rw [flush_eq]
  have hstation : ∀ st, u.resetStation st = station st := fun st =>
    (resetStation_eq s u st (State.station_setLink ..) fun n => State.record_setLink ..).trans (by cases st <;> rfl)
  have hv : u.resetOwner l = v := by
    cases l with
    | gauge => rfl
    | stationA => exact hstation .a
    | stationB => exact hstation .b
    | mover =>
      change u.resetMover = _
      rw [State.resetMover, keptAlignment_eq]
      rfl
  have htake := (takeResetLink_of_link s hl).trans (if_neg henabled)
  rw [hu, hv] at htake
  refine (portCommand_running hrun).trans ?_
  rw [htake]
  rfl

end Sys2Proof.Claims
end

section
/-! PROOFS. LOAD CONSIST (O25). -/
namespace Sys2Proof.Machine

/-! ## The checks -/

/-- The car found is the first that fails the check (R85). -/
theorem lowestFailing_of_lowest {ok : Car → Bool} {cars : List Car} {k : Nat} {c : Car} (hc : cars[k]? = some c) (hfails : ok c = false)
    (hbefore : ∀ j < k, ∀ d ∈ cars[j]?, ok d = true) (first : Nat) : lowestFailing ok cars first = some (k + first) := by
  induction cars generalizing k first with
  | nil => cases hc
  | cons head rest ih =>
    cases k with
    | zero =>
      cases hc
      rw [lowestFailing, if_neg (by simp [hfails]), Nat.zero_add]
    | succ k =>
      have hhead : ok head = true := hbefore 0 k.succ_pos head rfl
      have hrest : ∀ j < k, ∀ d ∈ rest[j]?, ok d = true := fun j hj d hd => hbefore (j + 1) (Nat.succ_lt_succ hj) d hd
      rw [lowestFailing, if_pos hhead, ih hc hrest, Nat.succ_add_eq_add_succ]

theorem profileUsable_iff (s : State) (c : Car) : s.profileUsable c = true ↔ s.statusOf c.profile = .valid := beq_iff_eq

section
variable {s : State} {id : VisitIdentity} {entries : List CarEntry} {cars : List Car}

theorem takeLoadConsist_of_bad_entries (hvisit : s.visit = .opened id)
    (h : entries.length < 1 ∨ 16 < entries.length ∨ carsOfEntries entries = none) : takeLoadConsist entries s = refuse s .outOfRange := by
  simp only [takeLoadConsist, hvisit, Bool.or_eq_true, decide_eq_true_eq, Config.maxCars]
  split_ifs with hcount
  · rfl
  · have hcars : carsOfEntries entries = none := by tauto
    rw [hcars]

section
variable (hvisit : s.visit = .opened id) (h1 : 1 ≤ entries.length) (h16 : entries.length ≤ 16) (hcars : carsOfEntries entries = some cars)
include hvisit h1 h16 hcars

theorem takeLoadConsist_of_unusable {k : Nat} (h : lowestFailing s.profileUsable cars 1 = some k) :
    takeLoadConsist entries s = refuseWith s .profileUnusable (be 1 k) := by
  simp [takeLoadConsist, hvisit, hcars, h, Config.maxCars, Nat.not_lt.mpr h16, Nat.ne_of_gt h1]

theorem takeLoadConsist_of_mismatch {k : Nat} (husable : lowestFailing s.profileUsable cars 1 = none)
    (h : lowestFailing s.classesAdmitted cars 1 = some k) : takeLoadConsist entries s = refuseWith s .classMismatch (be 1 k) := by
  simp [takeLoadConsist, hvisit, hcars, husable, h, Config.maxCars, Nat.not_lt.mpr h16, Nat.ne_of_gt h1]

theorem takeLoadConsist_accepted (husable : lowestFailing s.profileUsable cars 1 = none)
    (hadmitted : lowestFailing s.classesAdmitted cars 1 = none) : takeLoadConsist entries s = done (s.load id cars) [] := by
  simp [takeLoadConsist, hvisit, hcars, husable, hadmitted, Config.maxCars, Nat.not_lt.mpr h16, Nat.ne_of_gt h1]

end
end

/-! ## The groups -/

/-- The class of bogie k of a consist, counted from 0 (R48). -/
def bogieClassOf (cars : List Car) (k : Nat) : BogieClass :=
  ((cars[k / 2]?).map (fun c => if k % 2 = 0 then c.class1 else c.class2)).getD .trailer

/-- The class of the group of car k, counted from 0 (R49). -/
def carClassOf (cars : List Car) (k : Nat) : BogieClass :=
  ((cars[k]?).map (fun c => if c.class1 = .motor ∨ c.class2 = .motor then BogieClass.motor else .trailer)).getD .trailer

theorem bogieClassOf_cons_add_two (c : Car) (cars : List Car) (k : Nat) : bogieClassOf (c :: cars) (k + 2) = bogieClassOf cars k := by
  have hcar : (k + 2) / 2 = k / 2 + 1 := by omega
  have hbogie : (k + 2) % 2 = k % 2 := by omega
  rw [bogieClassOf, hcar, hbogie]
  rfl

theorem carClassOf_cons_zero (c : Car) (cars : List Car) : carClassOf (c :: cars) 0 = c.groupClass := by
  simp [carClassOf, Car.groupClass]

theorem carClassOf_cons_succ (c : Car) (cars : List Car) (k : Nat) : carClassOf (c :: cars) (k + 1) = carClassOf cars k := rfl

/-- The bogie groups of a consist that follows some cars, by their places (R48). -/
theorem buildBogieGroups_eq (v : LimitValues) (cars : List Car) (before : Nat) : buildBogieGroups v cars (before + 1) =
    (List.range (2 * cars.length)).map (fun k => buildBogieGroup v (2 * before + k + 1) (bogieClassOf cars k)) := by
  induction cars generalizing before with
  | nil => rfl
  | cons c rest ih =>
    have hlength : 2 * (c :: rest).length = 2 * rest.length + 1 + 1 := by rw [List.length_cons]; omega
    rw [hlength, List.range_succ_eq_map, List.range_succ_eq_map]
    simp only [buildBogieGroups, ih, List.map_cons, List.map_map]
    refine congrArg₂ _ rfl (congrArg₂ _ rfl (List.map_congr_left fun k _ => ?_))
    change _ = buildBogieGroup v (2 * before + (k + 2) + 1) (bogieClassOf (c :: rest) (k + 2))
    rw [bogieClassOf_cons_add_two]
    congr 1
    omega

/-- The car groups of a consist that follows some cars, by their places (R48, R49). -/
theorem buildCarGroups_eq (v : LimitValues) (cars : List Car) (before : Nat) : buildCarGroups v cars (before + 1) =
    (List.range cars.length).map (fun k => buildCarGroup v (before + k + 1) (carClassOf cars k)) := by
  induction cars generalizing before with
  | nil => rfl
  | cons c rest ih =>
    rw [List.length_cons, List.range_succ_eq_map]
    simp only [buildCarGroups, ih, List.map_cons, List.map_map, carClassOf_cons_zero]
    refine congrArg₂ _ rfl (List.map_congr_left fun k _ => ?_)
    change _ = buildCarGroup v (before + (k + 1) + 1) (carClassOf rest k)
    congr 1
    omega

theorem groupTolerance_bogie (v : LimitValues) (cls : BogieClass) :
    groupTolerance v .bogie cls = if cls = .motor then v.bogieTolMotor else v.bogieTolTrailer := by
  cases cls <;> rfl

theorem groupTolerance_car (v : LimitValues) (cls : BogieClass) :
    groupTolerance v .car cls = if cls = .motor then v.carTolMotor else v.carTolTrailer := by
  cases cls <;> rfl

theorem buildBogieGroup_succ (v : LimitValues) (k : Nat) (cls : BogieClass) : buildBogieGroup v (k + 1) cls =
    { kind := .bogie, index := k + 1, cls := cls, members := [2 * k + 1, 2 * k + 2], floor := none
      tolerance := if cls = .motor then v.bogieTolMotor else v.bogieTolTrailer } := by
  rw [buildBogieGroup, groupTolerance_bogie]
  rfl

theorem buildCarGroup_succ (v : LimitValues) (k : Nat) (cls : BogieClass) : buildCarGroup v (k + 1) cls =
    { kind := .car, index := k + 1, cls := cls, members := [4 * k + 1, 4 * k + 2, 4 * k + 3, 4 * k + 4], floor := none
      tolerance := if cls = .motor then v.carTolMotor else v.carTolTrailer } := by
  rw [buildCarGroup, groupTolerance_car]
  rfl

/-! ## The records -/

theorem carOf_sub_one {n : Nat} (h : 1 ≤ n) : carOf n - 1 = (n - 1) / 4 := by
  unfold carOf
  omega

section
variable (s : State) (id : VisitIdentity) {cars : List Car} {n : Nat}

theorem record_load_of_none (h1 : 1 ≤ n) (h : cars[(n - 1) / 4]? = none) : (s.load id cars).record n = s.record n := by
  rw [record_load, dif_neg]
  rintro ⟨-, -, hlt⟩
  rw [carOf_sub_one h1] at hlt
  exact Nat.not_lt.mpr (List.getElem?_eq_none_iff.mp h) hlt

theorem record_load_of_some {c : Car} (h1 : 1 ≤ n) (h64 : n ≤ 64) (h : cars[(n - 1) / 4]? = some c) :
    (s.load id cars).record n = loadedRecord n c := by
  obtain ⟨hlt, hcar⟩ := List.getElem?_eq_some_iff.mp h
  rw [← carOf_sub_one h1] at hlt
  rw [record_load, dif_pos ⟨h1, h64, hlt⟩]
  simp only [carOf_sub_one h1, hcar]

theorem loadedRecord_eq (n : Nat) (c : Car) : loadedRecord n c =
    { Record.vacant with
      stage := .announced
      position := some
        { car := carOf n, bogie := bogieOf n, axle := axleOf n, profile := c.profile
          cls := if bogieOf n = 1 then c.class1 else c.class2 } } := by
  simp only [loadedRecord, Car.classAt, beq_iff_eq]

/-- A load starts no condition: its records are ANNOUNCED, and the reopen list is emptied (R87, R208). -/
theorem condition_load (hcars : 1 ≤ cars.length) (k : Source) (h : (s.load id cars).condition k = true) : s.condition k = true := by
  cases k
  case blocked =>
    simp only [State.condition, List.any_eq_true, beq_iff_eq] at h ⊢
    obtain ⟨m, hm, hblocked⟩ := h
    refine ⟨m, hm, ?_⟩
    rw [record_load] at hblocked
    split at hblocked
    · cases hblocked
    · exact hblocked
  case visitSettled =>
    obtain ⟨-, hsettled, -⟩ := (settled_iff _).mp h
    obtain ⟨c, rest, rfl⟩ := List.exists_cons_of_length_pos hcars
    have hcount : 1 ≤ (s.load id (c :: rest)).recordCount := by
      change 1 ≤ 4 * (c :: rest).length
      rw [List.length_cons]
      omega
    have hfirst := hsettled 1 (by decide) hcount
    rw [record_load_of_some s id le_rfl (by decide) rfl] at hfirst
    rcases hfirst with hfinished | hcondemned
    · cases hfinished
    · cases hcondemned
  case moveWaiting => exact h
  all_goals cases h

end

theorem applicabilityAdmits_codes (c : BogieClass) : applicabilityAdmits 1 c = (c == .motor)
    ∧ applicabilityAdmits 2 c = (c == .trailer) ∧ applicabilityAdmits 3 c = true := by
  cases c <;> exact ⟨rfl, rfl, rfl⟩

end Sys2Proof.Machine
namespace Sys2Proof.Claims
open Sys2Proof.Machine

/-- Settles O25: the checks in order; the loaded records and groups, place by place. -/
theorem loadConsistTable : Obligations.LoadConsistTable := by
  unfold Obligations.LoadConsistTable
  intro s entries hrun
  refine ⟨fun hvisit => portCommand_unchanged hrun (by simp only [takeLoadConsist, hvisit] <;> rfl),
    fun id cars hvisit => portCommand_unchanged hrun (by simp only [takeLoadConsist, hvisit] <;> rfl),
    fun id hvisit => ⟨fun hbad => portCommand_unchanged hrun (takeLoadConsist_of_bad_entries hvisit hbad),
      fun cars h1 h16 hcars => ⟨fun k c hc hunusable hbefore => ?unusable, fun husable => ?checked⟩⟩, applicabilityAdmits_codes⟩
  case unusable =>
    refine portCommand_unchanged hrun (takeLoadConsist_of_unusable hvisit h1 h16 hcars ?_)
    exact lowestFailing_of_lowest hc (Bool.eq_false_iff.mpr fun h => hunusable ((profileUsable_iff s c).mp h))
      (fun j hj d hd => (profileUsable_iff s d).mpr (hbefore j hj d hd)) 1
  case checked =>
    have husable' : lowestFailing s.profileUsable cars 1 = none :=
      (lowestFailing_eq_none_iff _ _ _).mpr fun c hc => (profileUsable_iff s c).mpr (husable c hc)
    refine ⟨fun k c hc hmismatch hbefore => portCommand_unchanged hrun
      (takeLoadConsist_of_mismatch hvisit h1 h16 hcars husable' (lowestFailing_of_lowest hc hmismatch hbefore 1)),
      fun hadmitted => ⟨s.load id cars, ?accepted, ?written, fun n hn1 hn64 => ?record⟩⟩
    case accepted =>
      have hlength : 1 ≤ cars.length := by rw [(carsOfEntries_some hcars).1]; exact h1
      exact portCommand_of_no_start hrun (takeLoadConsist_accepted hvisit h1 h16 hcars husable'
        ((lowestFailing_eq_none_iff _ _ _).mpr hadmitted)) (condition_load s id hlength)
    case written =>
      have hbogies := buildBogieGroups_eq s.limits cars 0
      have hcarGroups := buildCarGroups_eq s.limits cars 0
      simp only [Nat.mul_zero, Nat.zero_add, buildBogieGroup_succ, buildCarGroup_succ] at hbogies hcarGroups
      rw [State.load, hbogies, hcarGroups]
      rfl
    case record =>
      split
      · rename_i hnone
        exact record_load_of_none s id hn1 hnone
      · rename_i c hsome
        exact (record_load_of_some s id hn1 hn64 hsome).trans (loadedRecord_eq n c)

end Sys2Proof.Claims
end
